-- ==== Sys2Proof/Word.lean ====
section
/-! DEFINITION. The word types of the Mirgal 2608 and their plainest arithmetic (spec/00_scope.md 5.1, spec/11_formats_and_signals.md). -/

namespace Sys2Proof

/-- A byte of the Configuration Link. -/
abbrev Byte := BitVec 8

/-- A 16-bit field: a phase length, a sync guard, a detail, a sequence number. -/
abbrev Half := BitVec 16

/-- A 32-bit field: a frame number or a statistics counter, each of which wraps. -/
abbrev Word32 := BitVec 32

/-- A beat address: the upper 37 bits of a 40-bit byte address aligned to a beat (R73, 11.7). -/
abbrev BeatAddr := BitVec 37

/-- The data of one beat, 8 bytes (00_scope.md 5.1). -/
abbrev BeatData := BitVec 64

/-- One beat of write data: eight bytes and eight byte enables (R73). -/
structure Beat where
  bytes   : BeatData
  enables : BitVec 8
deriving DecidableEq, Repr

/-- The 40-bit byte address of a beat address; its three lowest bits are zero (R73). -/
def BeatAddr.byteAddr (a : BeatAddr) : BitVec 40 := a ++ (0#3)

end Sys2Proof
end

