-- ==== Sys2Proof/Syntax.lean ====
section
/-! DEFINITION. The commands of the Mirgal 2608: one constructor of Instr for each row of spec/opcode_table.json, with the row's operands. -/

namespace Sys2Proof

/-- A partition P0 to P7 (00_scope.md 5.2). -/
abbrev Partition := Fin 8

/-- A phase A to H, by its index (00_scope.md 5.2). -/
abbrev Phase := Fin 8

/-- A requester number (R73). -/
abbrev Requester := Fin 64

/-- The requester's own tag of a request (R73). -/
abbrev Tag := BitVec 8

/-- An index of the Outstanding Transaction Table, which is a Memory Port tag (R74, R120). -/
abbrev OttIndex := Fin 32

/-- The kind of a request (R73). -/
inductive Kind where
  | read
  | write
deriving DecidableEq, Repr

/-- The memory status of a response at the Memory Port (R74). -/
inductive MemStatus where
  | ok
  | error
deriving DecidableEq, Repr

/-- A request as the Requester Port's field group carries it (R73, 11.7): the length is carried less one, and
of the sixteen beats of write data the first `length` are used, for a WRITE. -/
structure Request where
  requester : Requester
  tag       : Tag
  kind      : Kind
  addr      : BeatAddr
  lenLess1  : Fin 16
  data      : Vector Beat 16
deriving DecidableEq, Repr

/-- The length of a request in beats, 1 to 16 (R73). -/
def Request.length (q : Request) : Nat := q.lenLess1.val + 1

/-- A response as the Memory Port's field group carries it (R74, 11.7): a beat count of 0 to 31, of which at
most sixteen carry data. -/
structure Response where
  mtag      : OttIndex
  status    : MemStatus
  beatCount : Fin 32
  data      : Vector BeatData 16
deriving DecidableEq, Repr

/-- A command of the Configuration Link with its argument bytes as they are carried (R156, 11.3). The ranges of
the fields are judged at the execution, so an argument out of range is still a command. -/
inductive LinkCommand where
  | nop
  | readStatus
  | readSettings
  | writeSettings (prescale syncMode : Byte) (guard : Half) (deadline alternation exponent threshold enable : Byte)
  | readPhases (bank : Byte)
  | writePhases (bank count : Byte) (lengths : Vector Half 8)
  | readPartition (bank partition : Byte)
  | writePartition (bank partition enabled window : Byte) (base : Half) (fraction queueLimit holdLimit : Byte)
  | readMap (bank first count : Byte)
  | writeMap (bank first count : Byte) (entries : List Byte)
  | copyBank (source destination : Byte)
  | closeBank (bank : Byte)
  | requestSwitch (target : Byte)
  | cancelSwitch
  | setMode (target : Byte)
  | stopSchedule
  | takeIncident
  | readStatistics (partition : Byte)
  | clearStatistics
  | readTransactions (first : Byte)
  | flushQuarantine
  | resetRegulator
deriving DecidableEq, Repr

/-- The steps of the part, one constructor per row of spec/opcode_table.json. A request, a memory response and
the bits of a transaction are operands of their arrival; the link commands carry their argument bytes. -/
inductive Instr where
  /-- PIN_RESET: assertion of RST_N, or power-up (R4). -/
  | pinReset
  /-- RST_N_DEASSERTION: the end of pin reset (R165). -/
  | rstNDeassertion
  /-- TICK: the divider reaches the end of its period (R1). -/
  | tick
  /-- PHASE_EXPIRY: the Frame Sequencer handles the expiry of the current phase (R7). -/
  | phaseExpiry
  /-- GUARD_EXPIRY: the Frame Sequencer handles the expiry of the guard in force (R11). -/
  | guardExpiry
  /-- SYNC_IN_ARRIVAL: a rising edge on SYNC_IN (R16). -/
  | syncInArrival
  /-- FRAME_OUT_PULSE_END: the pulse width of FRAME_OUT runs out (R14). -/
  | frameOutPulseEnd
  /-- REQUEST_ARRIVAL: the interconnect presents a request (R73). -/
  | requestArrival (q : Request)
  /-- TAKING: the Requester Port takes the presented request (R75). -/
  | taking
  /-- RELEASE: the Release Arbiter releases a head entry (R114). -/
  | release
  /-- ACCEPTANCE: the memory controller accepts the offered request (R108). -/
  | acceptance
  /-- RESPONSE_ARRIVAL: a response is presented at the Memory Port (R125). -/
  | responseArrival (r : Response)
  /-- DEADLINE_EXPIRY: the OTT handles the deadline expiries of a tick (R124). -/
  | deadlineExpiry
  /-- RESPONSE_DELIVERY: the interconnect accepts the head of the Return Queue (R85). -/
  | responseDelivery
  /-- DRST_N_ASSERTION: the memory-side reset notice (R132). -/
  | drstNAssertion
  /-- DRST_N_DEASSERTION: the end of the memory-side reset (R117). -/
  | drstNDeassertion
  /-- CS_N_ASSERTION: a link transaction begins (R150). -/
  | csNAssertion
  /-- CS_N_DEASSERTION: a link transaction ends; `mosi` is the bits sampled in it, one for each rising edge of
  SCLK, in the order they were sent (R150, R151). -/
  | csNDeassertion (mosi : List Bool)
  /-- NOP (R156). -/
  | nop
  /-- READ_STATUS (R157). -/
  | readStatus
  /-- READ_SETTINGS (R158). -/
  | readSettings
  /-- WRITE_SETTINGS (R158). -/
  | writeSettings (prescale syncMode : Byte) (guard : Half) (deadline alternation exponent threshold enable : Byte)
  /-- READ_PHASES (R30). -/
  | readPhases (bank : Byte)
  /-- WRITE_PHASES (R27). -/
  | writePhases (bank count : Byte) (lengths : Vector Half 8)
  /-- READ_PARTITION (R30). -/
  | readPartition (bank partition : Byte)
  /-- WRITE_PARTITION (R28). -/
  | writePartition (bank partition enabled window : Byte) (base : Half) (fraction queueLimit holdLimit : Byte)
  /-- READ_MAP (R30). -/
  | readMap (bank first count : Byte)
  /-- WRITE_MAP (R29). -/
  | writeMap (bank first count : Byte) (entries : List Byte)
  /-- COPY_BANK (R31). -/
  | copyBank (source destination : Byte)
  /-- CLOSE_BANK (R32). -/
  | closeBank (bank : Byte)
  /-- REQUEST_SWITCH (R37). -/
  | requestSwitch (target : Byte)
  /-- CANCEL_SWITCH (R38). -/
  | cancelSwitch
  /-- SET_MODE (R66). -/
  | setMode (target : Byte)
  /-- STOP_SCHEDULE (R21). -/
  | stopSchedule
  /-- TAKE_INCIDENT (R144). -/
  | takeIncident
  /-- READ_STATISTICS (R57). -/
  | readStatistics (partition : Byte)
  /-- CLEAR_STATISTICS (R57). -/
  | clearStatistics
  /-- READ_TRANSACTIONS (R135). -/
  | readTransactions (first : Byte)
  /-- FLUSH_QUARANTINE (R131). -/
  | flushQuarantine
  /-- RESET_REGULATOR (R160). -/
  | resetRegulator
  /-- END_OF_EXECUTION: the command execution completes (R154). -/
  | endOfExecution
deriving DecidableEq, Repr

/-- The row of the table that stands for a command of the link (R156). -/
def LinkCommand.row : LinkCommand → Instr
  | .nop => .nop
  | .readStatus => .readStatus
  | .readSettings => .readSettings
  | .writeSettings p m g d a k t e => .writeSettings p m g d a k t e
  | .readPhases b => .readPhases b
  | .writePhases b n ls => .writePhases b n ls
  | .readPartition b p => .readPartition b p
  | .writePartition b p e w base f q h => .writePartition b p e w base f q h
  | .readMap b f n => .readMap b f n
  | .writeMap b f n es => .writeMap b f n es
  | .copyBank s d => .copyBank s d
  | .closeBank b => .closeBank b
  | .requestSwitch b => .requestSwitch b
  | .cancelSwitch => .cancelSwitch
  | .setMode m => .setMode m
  | .stopSchedule => .stopSchedule
  | .takeIncident => .takeIncident
  | .readStatistics p => .readStatistics p
  | .clearStatistics => .clearStatistics
  | .readTransactions f => .readTransactions f
  | .flushQuarantine => .flushQuarantine
  | .resetRegulator => .resetRegulator

end Sys2Proof
end

