-- ==== Sys2Proof/Decode.lean ====
section
/-! DEFINITION. The commands that a word spells by the opcode table's bits. No row of spec/opcode_table.json gives bits, so no word spells a command. -/

namespace Sys2Proof

/-- No row of the table gives bits: the answer is none for every word. The frames of the Configuration Link are
decoded in Sys2Proof/Machine/Operands.lean, at the deassertion of CS_N (R151 to R153). -/
def decodeTableWord (_nbits _w : Nat) : Option Instr := none

end Sys2Proof
end

