-- ==== Sys2Proof/Config.lean ====
section
/-! DEFINITION. What an implementation of the Mirgal 2608 fixes, and the free values: the two orders that the manual leaves open. -/

namespace Sys2Proof

/-- The orders in which the reactions of Bank Control, Mode Control and the hold queues to one frame start
announcement can be taken (R13, R140). -/
inductive ReactionOrder where
  | bankModeHold
  | bankHoldMode
  | modeBankHold
  | modeHoldBank
  | holdBankMode
  | holdModeBank
deriving DecidableEq, Repr, Inhabited

namespace Config

/-- The order of the reactions to the frame start that uses the n-th free value. FREE VALUE (log 4): the manual
lets the reactions be taken in either order (R13, R68, R140). -/
opaque frameReactionOrder : Nat → ReactionOrder

/-- Whether the OTT reacts before the Frame Sequencer to the tick that uses the n-th free value. FREE VALUE
(log 5): the manual lets either reaction be taken first (R123). -/
opaque ottReactsFirst : Nat → Bool

/-- The FRAME_OUT pulse width in REFCLK periods (11.8). -/
def frameOutWidth : Nat := 64

/-- The entries of the Hold Store (R90). -/
def holdCapacity : Nat := 48

/-- The bound on the Return Queue count plus the live count (R75, R84). -/
def returnBound : Nat := 96

/-- The records the Incident Queue holds (R137). -/
def incidentCapacity : Nat := 16

/-- The bytes the receive frame buffer holds (R149). -/
def frameBufferBytes : Nat := 203

/-- The greatest argument length a frame may carry (R151). -/
def maxArguments : Nat := 200

end Config
end Sys2Proof
end

