-- ==== Sys2Proof/Machine/State.lean ====
section
/-! DEFINITION. The state of the Mirgal 2608 as plain data, every piece the spec gives the part, and the state right after pin reset. -/

namespace Sys2Proof.Machine

/-! ## Frame Sequencer (Chapter 1) -/

/-- Sequencer state (1.2). -/
inductive SeqState where
  | stopped
  | running
  | gap
deriving DecidableEq, Repr

/-- Cause of a frame start (1.2). -/
inductive Cause where
  | timed
  | sync
  | guard
deriving DecidableEq, Repr

/-- Sync mode setting (1.2). -/
inductive SyncMode where
  | free
  | follow
deriving DecidableEq, Repr

/-- The state of the Frame Sequencer, the table of 1.2 less its two settings. `firstPending` is the mark of R5:
the next frame start is the first since the start. -/
structure Sequencer where
  state        : SeqState
  frame        : Word32
  phase        : Option Phase
  ticksLeft    : Nat
  gapElapsed   : Nat
  guardInForce : Nat
  cause        : Option Cause
  firstPending : Bool
deriving DecidableEq, Repr

/-! ## Settings (R158) -/

/-- The eight settings (R158). -/
structure Settings where
  prescale       : Fin 256
  syncMode       : SyncMode
  syncGuard      : Half
  deadline       : Fin 64
  alternation    : Bool
  exponent       : Fin 8
  alertThreshold : Fin 17
  alertEnable    : Bool
deriving DecidableEq, Repr

/-! ## Schedule banks (Chapter 2) -/

/-- Bank 0 and Bank 1 (00_scope.md 5.2). -/
inductive BankId where
  | bank0
  | bank1
deriving DecidableEq, Repr

/-- A partition record (R23). Bit n of the window stands for phase n (R163). -/
structure PartRecord where
  enabled        : Bool
  window         : BitVec 8
  budgetBase     : Fin 4096
  budgetFraction : Fin 8
  queueLimit     : Fin 33
  holdLimit      : Fin 256
deriving DecidableEq, Repr

/-- The contents of a bank (R23): phase count, phase lengths, partition records and Requester Map, in which
`none` is UNASSIGNED. -/
structure Schedule where
  phaseCount : Fin 9
  lengths    : Vector Half 8
  parts      : Vector PartRecord 8
  map        : Vector (Option Partition) 64
deriving DecidableEq, Repr

/-- The state of a bank (2.2). -/
inductive BankState where
  | editing
  | ready
  | active
deriving DecidableEq, Repr

/-- One schedule bank: its contents and its state. -/
structure Bank where
  contents : Schedule
  state    : BankState
deriving DecidableEq, Repr

/-- Bank Control: both banks and the items of 2.6 that are not settings. -/
structure BankControl where
  bank0         : Bank
  bank1         : Bank
  pendingSwitch : Option BankId
  framesInBank  : Nat
deriving DecidableEq, Repr

/-! ## Credit Unit (Chapter 3) -/

/-- The credit state of one partition (R47). -/
structure Credit where
  granted   : Nat
  remaining : Int
  charged   : Nat
  fraction  : Fin 8
deriving DecidableEq, Repr

/-- The Partition Statistics of one partition, five counters that wrap (R56). -/
structure Stats where
  released     : Word32
  beatsCharged : Word32
  refused      : Word32
  holdExpired  : Word32
  timedOut     : Word32
deriving DecidableEq, Repr

/-! ## Mode Control (Chapter 4) -/

/-- The operating modes (4.1). -/
inductive Mode where
  | straight
  | observe
  | enforce
  | draining
deriving DecidableEq, Repr

/-- The three items of Mode Control (4.1). -/
structure ModeControl where
  inForce     : Mode
  requested   : Option Mode
  drainTarget : Option Mode
deriving DecidableEq, Repr

/-! ## Memory path (Chapters 5 to 8) -/

/-- A request as the part keeps it once it is taken (R73, R89): for a WRITE its data is exactly `length` beats,
for a READ it is empty. -/
structure Taken where
  requester : Requester
  tag       : Tag
  kind      : Kind
  addr      : BeatAddr
  lenLess1  : Fin 16
  data      : List Beat
deriving DecidableEq, Repr

/-- The upstream statuses (R83). -/
inductive UpStatus where
  | ok
  | memError
  | refused
  | expired
  | timeout
  | aborted
deriving DecidableEq, Repr

/-- A response in the Return Queue (R82). -/
structure UpResponse where
  requester : Requester
  tag       : Tag
  status    : UpStatus
  data      : List BeatData
deriving DecidableEq, Repr

/-- A held entry (R89). -/
structure HeldEntry where
  request   : Taken
  partition : Partition
  admitted  : Word32
deriving DecidableEq, Repr

/-- The request in the Offer Slot, with the Memory Port tag it carries (R74, R107). -/
structure Offer where
  requester : Requester
  mtag      : OttIndex
  kind      : Kind
  addr      : BeatAddr
  lenLess1  : Fin 16
  data      : List Beat
deriving DecidableEq, Repr

/-- The fields of an OPEN or EXPIRED entry of the OTT but for the deadline count (R120). -/
structure Transaction where
  requester : Requester
  tag       : Tag
  kind      : Kind
  addr      : BeatAddr
  lenLess1  : Fin 16
  partition : Option Partition
  inSlot    : Bool
deriving DecidableEq, Repr

/-- An entry of the OTT (R120). An OPEN entry has its deadline ticks remaining; a count of 0 stands for a
deadline expiry that a tick has brought and that has not been handled yet (log 3). -/
inductive OttEntry where
  | free
  | opened (t : Transaction) (ticks : Nat)
  | expired (t : Transaction)
deriving DecidableEq, Repr

/-! ## Incident Unit (Chapter 9) -/

/-- The seventeen kinds of incident (R139). -/
inductive IncidentKind where
  | queueFull
  | storeFull
  | unmapped
  | duplicateTag
  | holdExpired
  | outOfWindow
  | overBudget
  | responseTimeout
  | lateResponse
  | strayResponse
  | malformedResponse
  | downstreamReset
  | bankSwitched
  | switchDeclined
  | frameCut
  | syncMissed
  | modeChanged
deriving DecidableEq, Repr

/-- The phase of an incident record: A to H, or GAP (R138). -/
inductive ShownPhase where
  | letter (p : Phase)
  | gap
deriving DecidableEq, Repr

/-- An incident record (R138); `none` is an absent field. -/
structure IncidentRecord where
  seq         : Half
  kind        : IncidentKind
  frame       : Option Half
  phase       : Option ShownPhase
  partition   : Option Partition
  requester   : Option Requester
  tag         : Option Tag
  addr        : Option BeatAddr
  repeatCount : Nat
  detail      : Half
deriving DecidableEq, Repr

/-- The state of the Incident Unit (R137) less its two settings. -/
structure IncidentUnit where
  queue       : List IncidentRecord
  nextSeq     : Half
  lost        : Nat
  newestFrame : Option Word32
deriving DecidableEq, Repr

/-! ## Configuration Link (Chapter 10) -/

/-- The reply statuses (R155). -/
inductive ReplyStatus where
  | ok
  | accepted
  | queueEmpty
  | crcError
  | framingError
  | unknownCommand
  | badArgument
  | badState
  | bankActive
  | bankNotReady
  | alreadyReady
  | alreadyActive
  | checkFailed
  | switchPending
  | nothingPending
  | alternating
  | modeRefused
deriving DecidableEq, Repr

/-- A reply: its status and its reply bytes, whose number is the reply length (R149). -/
structure Reply where
  status : ReplyStatus
  bytes  : List Byte
deriving DecidableEq, Repr

/-- What the link is executing (R154): a command that has passed the checks and is still to be carried out, or
the reply of a command that has been carried out and whose reply has not entered the Reply Register. -/
inductive Execution where
  | command (c : LinkCommand)
  | replying (r : Reply)
deriving DecidableEq, Repr

/-- The link state (R149). `early` marks a transaction begun while the link was EXECUTING (R154). -/
inductive LinkState where
  | idle
  | receiving (early : Bool)
  | executing (x : Execution)
deriving DecidableEq, Repr

/-- The Configuration Link (R149): link state, receive frame buffer (whole bytes and the bits of a byte not yet
complete) and Reply Register. -/
structure Link where
  state  : LinkState
  buffer : List Byte
  bits   : List Bool
  reply  : Reply
deriving DecidableEq, Repr

/-! ## The part -/

/-- The levels of the inputs that have one: true is asserted (11.8). -/
structure Pins where
  rst  : Bool
  drst : Bool
  cs   : Bool
deriving DecidableEq, Repr

/-- The state of the Mirgal 2608. `presented` and `memPresented` are what the outside holds at the two ports;
`freeIndex` counts the free values used and `pending` is the queue of commands, both the model's own (log 6). -/
structure State where
  pins         : Pins
  divider      : Nat
  frameOutLeft : Nat
  seq          : Sequencer
  settings     : Settings
  banks        : BankControl
  credit       : Vector Credit 8
  stats        : Vector Stats 8
  mode         : ModeControl
  presented    : Option Request
  returnQueue  : List UpResponse
  hold         : Vector (List HeldEntry) 8
  pointer      : Partition
  offer        : Option Offer
  ott          : Vector OttEntry 32
  memPresented : Option Response
  incidents    : IncidentUnit
  link         : Link
  freeIndex    : Nat
  pending      : List Instr
deriving DecidableEq, Repr

/-- The part has no fault: nothing raises one, and no command stops it. What it cannot carry out it answers
with a reply status (R155) or a response status (R83). Safe: there is no constructor to reach. -/
inductive Fault where
deriving DecidableEq, Repr

/-- Why a step can refuse. -/
inductive Refusal where
  /-- Raised by exec for a command that has no meaning yet, and by nothing else. Safe: the model stops. -/
  | notModelled (mnemonic : String)
deriving DecidableEq, Repr

/-- The disabled, empty partition record (R24). -/
def PartRecord.zero : PartRecord :=
  { enabled := false, window := 0, budgetBase := 0, budgetFraction := 0, queueLimit := 0, holdLimit := 0 }

/-- The zero schedule (R24). -/
def Schedule.zero : Schedule :=
  { phaseCount := 0
    lengths    := Vector.replicate 8 0
    parts      := Vector.replicate 8 PartRecord.zero
    map        := Vector.replicate 64 none }

/-- Zero credit (R58). -/
def Credit.zero : Credit := { granted := 0, remaining := 0, charged := 0, fraction := 0 }

/-- Zero counters (R58). -/
def Stats.zero : Stats := { released := 0, beatsCharged := 0, refused := 0, holdExpired := 0, timedOut := 0 }

/-- The settings after pin reset (R158). -/
def Settings.reset : Settings :=
  { prescale := 49, syncMode := .free, syncGuard := 0, deadline := 63, alternation := false, exponent := 0
    alertThreshold := 1, alertEnable := true }

/-- The sequencer after pin reset (R4). -/
def Sequencer.reset : Sequencer :=
  { state := .stopped, frame := 0, phase := none, ticksLeft := 0, gapElapsed := 0, guardInForce := 0
    cause := none, firstPending := false }

/-- Bank Control after pin reset (R24, R34). -/
def BankControl.reset : BankControl :=
  { bank0 := { contents := Schedule.zero, state := .editing }
    bank1 := { contents := Schedule.zero, state := .editing }
    pendingSwitch := none
    framesInBank := 0 }

/-- Mode Control after pin reset (4.1). -/
def ModeControl.reset : ModeControl := { inForce := .straight, requested := none, drainTarget := none }

/-- The Incident Unit after pin reset (R137). -/
def IncidentUnit.reset : IncidentUnit := { queue := [], nextSeq := 0, lost := 0, newestFrame := none }

/-- The reply OK with reply length 0. -/
def Reply.done : Reply := { status := .ok, bytes := [] }

/-- The link after pin reset (R149). -/
def Link.reset : Link := { state := .idle, buffer := [], bits := [], reply := Reply.done }

/-- The part right after pin reset, RST_N deasserted. DESIGN CHOICE (log 1): the other inputs are quiet (DRST_N
and CS_N deasserted, nothing presented at a port). DESIGN CHOICE (log 6): no free value has been used. -/
def State.reset : State :=
  { pins         := { rst := false, drst := false, cs := false }
    divider      := 0
    frameOutLeft := 0
    seq          := Sequencer.reset
    settings     := Settings.reset
    banks        := BankControl.reset
    credit       := Vector.replicate 8 Credit.zero
    stats        := Vector.replicate 8 Stats.zero
    mode         := ModeControl.reset
    presented    := none
    returnQueue  := []
    hold         := Vector.replicate 8 []
    pointer      := 7
    offer        := none
    ott          := Vector.replicate 32 .free
    memPresented := none
    incidents    := IncidentUnit.reset
    link         := Link.reset
    freeIndex    := 0
    pending      := [] }

end Sys2Proof.Machine
end

