-- ==== Sys2Proof/Machine/Operands.lean ====
section
/-! DEFINITION. The operand forms of the Configuration Link: bit and byte order, the CRC-8, field codes and ranges, the frames of the commands read and written, and the bytes of a reply (R150 to R153, R162 to R164, 11.2, 11.3). -/

namespace Sys2Proof.Machine

/-! ## Tables of a fixed number of like things -/

/-- The table with one item replaced. -/
def setAt {α : Type} {n : Nat} (v : Vector α n) (i : Fin n) (a : α) : Vector α n := v.set i.val a i.isLt

/-- The table with a function applied to every item. -/
def mapAll {α β : Type} {n : Nat} (f : α → β) (v : Vector α n) : Vector β n := Vector.ofFn fun i => f v[i]

/-! ## Bits and bytes -/

/-- The eight bits of a byte, the most significant first (R150, R162). -/
def byteBits (b : Byte) : List Bool :=
  [b.getLsbD 7, b.getLsbD 6, b.getLsbD 5, b.getLsbD 4, b.getLsbD 3, b.getLsbD 2, b.getLsbD 1, b.getLsbD 0]

/-- The byte of eight bits, the most significant first (R150). -/
def byteOfBits (b7 b6 b5 b4 b3 b2 b1 b0 : Bool) : Byte :=
  BitVec.ofBoolListBE [b7, b6, b5, b4, b3, b2, b1, b0]

/-- The whole bytes of a transaction and the bits of the byte left unfinished (R150, R151). -/
def groupBits : List Bool → List Byte × List Bool
  | b7 :: b6 :: b5 :: b4 :: b3 :: b2 :: b1 :: b0 :: rest =>
    (byteOfBits b7 b6 b5 b4 b3 b2 b1 b0 :: (groupBits rest).1, (groupBits rest).2)
  | rest => ([], rest)

/-- The bits that carry a list of bytes, in the order they are sent (R162). -/
def bitsOfBytes : List Byte → List Bool
  | [] => []
  | b :: bs => byteBits b ++ bitsOfBytes bs

/-- The lowest `k` bytes of a field, the most significant first (R162). -/
def beBytes {w : Nat} : Nat → BitVec w → List Byte
  | 0, _ => []
  | k + 1, v => v.extractLsb' (8 * k) 8 :: beBytes k v

/-- A field of two bytes, the most significant first (R162). -/
def halfOfBytes (hi lo : Byte) : Half := hi ++ lo

/-- A count in one byte. -/
def countByte (n : Nat) : Byte := BitVec.ofNat 8 n

/-! ## CRC-8 (R164) -/

/-- One bit of the CRC: shift left, and add 07h when the bit shifted out differs from the data bit. -/
def crcBit (c : Byte) (d : Bool) : Byte := if c.getLsbD 7 != d then (c <<< 1) ^^^ 0x07#8 else c <<< 1

/-- One byte of the CRC, most significant bit first. -/
def crcByte (c b : Byte) : Byte := (byteBits b).foldl crcBit c

/-- The CRC-8 of a list of bytes, with initial value FFh. -/
def crc8 (bytes : List Byte) : Byte := bytes.foldl crcByte 0xFF#8

/-! ## Field codes (11.3) -/

/-- The code of an absent field or of none (R163). -/
def absentCode : Byte := 0xFF#8

/-- The code of a field that may be absent. -/
def codeOr {α : Type} (f : α → Byte) : Option α → Byte
  | some a => f a
  | none => absentCode

/-- The code of a number below 256. -/
def finCode {n : Nat} (i : Fin n) : Byte := countByte i.val

def bankCode : BankId → Byte
  | .bank0 => 0x00#8
  | .bank1 => 0x01#8

def onOffCode (b : Bool) : Byte := if b then 0x01#8 else 0x00#8

def syncModeCode : SyncMode → Byte
  | .free => 0x00#8
  | .follow => 0x01#8

def modeCode : Mode → Byte
  | .straight => 0x00#8
  | .observe => 0x01#8
  | .enforce => 0x02#8
  | .draining => 0x03#8

def bankStateCode : BankState → Byte
  | .editing => 0x00#8
  | .ready => 0x01#8
  | .active => 0x02#8

def seqStateCode : SeqState → Byte
  | .stopped => 0x00#8
  | .running => 0x01#8
  | .gap => 0x02#8

def causeCode : Cause → Byte
  | .timed => 0x00#8
  | .sync => 0x01#8
  | .guard => 0x02#8

def shownPhaseCode : ShownPhase → Byte
  | .letter p => finCode p
  | .gap => 0x08#8

def replyStatusCode : ReplyStatus → Byte
  | .ok => 0x00#8
  | .accepted => 0x01#8
  | .queueEmpty => 0x02#8
  | .crcError => 0x80#8
  | .framingError => 0x81#8
  | .unknownCommand => 0x82#8
  | .badArgument => 0x83#8
  | .badState => 0x84#8
  | .bankActive => 0x85#8
  | .bankNotReady => 0x86#8
  | .alreadyReady => 0x87#8
  | .alreadyActive => 0x88#8
  | .checkFailed => 0x89#8
  | .switchPending => 0x8A#8
  | .nothingPending => 0x8B#8
  | .alternating => 0x8C#8
  | .modeRefused => 0x8D#8

/-- The codes of the incident kinds (11.5). -/
def incidentCode : IncidentKind → Byte
  | .queueFull => 0x01#8
  | .storeFull => 0x02#8
  | .unmapped => 0x03#8
  | .duplicateTag => 0x04#8
  | .holdExpired => 0x05#8
  | .outOfWindow => 0x06#8
  | .overBudget => 0x07#8
  | .responseTimeout => 0x08#8
  | .lateResponse => 0x09#8
  | .strayResponse => 0x0A#8
  | .malformedResponse => 0x0B#8
  | .downstreamReset => 0x0C#8
  | .bankSwitched => 0x0D#8
  | .switchDeclined => 0x0E#8
  | .frameCut => 0x0F#8
  | .syncMissed => 0x10#8
  | .modeChanged => 0x11#8

/-! ## Argument fields and their ranges (R153, R163) -/

/-- A byte as a number below `n`, where it is one. -/
def fin? (n : Nat) (b : Byte) : Option (Fin n) :=
  if h : b.toNat < n then some ⟨b.toNat, h⟩ else none

def bank? (b : Byte) : Option BankId :=
  if b = 0x00#8 then some .bank0 else if b = 0x01#8 then some .bank1 else none

def onOff? (b : Byte) : Option Bool :=
  if b = 0x00#8 then some false else if b = 0x01#8 then some true else none

def syncMode? (b : Byte) : Option SyncMode :=
  if b = 0x00#8 then some .free else if b = 0x01#8 then some .follow else none

/-- The target of SET_MODE: STRAIGHT, OBSERVE or ENFORCE (R65, R163). -/
def targetMode? (b : Byte) : Option Mode :=
  if b = 0x00#8 then some .straight
  else if b = 0x01#8 then some .observe
  else if b = 0x02#8 then some .enforce
  else none

/-- A map entry: P0 to P7, or UNASSIGNED (R29, 11.3). -/
def mapEntry? (b : Byte) : Option (Option Partition) :=
  if b = absentCode then some none else (fin? 8 b).map some

/-- A run of map entries, each in range (R29). -/
def mapEntries? : List Byte → Option (List (Option Partition))
  | [] => some []
  | b :: bs =>
    match mapEntry? b, mapEntries? bs with
    | some e, some es => some (e :: es)
    | _, _ => none

/-- The alert threshold, 1 to 16 (R147, R158). -/
def threshold? (b : Byte) : Option (Fin 17) :=
  if b = 0x00#8 then none else fin? 17 b

/-- The budget base, 0 to 4095 (R28). -/
def budgetBase? (h : Half) : Option (Fin 4096) :=
  if hlt : h.toNat < 4096 then some ⟨h.toNat, hlt⟩ else none

/-- The eight settings of a WRITE_SETTINGS, each in its range (R158, 11.6). -/
def settings? (prescale syncMode : Byte) (guard : Half) (deadline alternation exponent threshold enable : Byte) :
    Option Settings :=
  match syncMode? syncMode, fin? 64 deadline, onOff? alternation, fin? 8 exponent, threshold? threshold,
      onOff? enable with
  | some m, some d, some a, some k, some t, some e =>
    some { prescale := ⟨prescale.toNat, prescale.isLt⟩, syncMode := m, syncGuard := guard, deadline := d
           alternation := a, exponent := k, alertThreshold := t, alertEnable := e }
  | _, _, _, _, _, _ => none

/-- The bank and the phase count of a WRITE_PHASES (R27). -/
def phases? (bank count : Byte) : Option (BankId × Fin 9) :=
  match bank? bank, fin? 9 count with
  | some b, some n => some (b, n)
  | _, _ => none

/-- The bank and partition of READ_PARTITION and WRITE_PARTITION (R28, R30). -/
def bankPartition? (bank partition : Byte) : Option (BankId × Partition) :=
  match bank? bank, fin? 8 partition with
  | some b, some p => some (b, p)
  | _, _ => none

/-- The record of a WRITE_PARTITION (R28); every window byte is in range (R163). -/
def record? (enabled window : Byte) (base : Half) (fraction queueLimit holdLimit : Byte) : Option PartRecord :=
  match onOff? enabled, budgetBase? base, fin? 8 fraction, fin? 33 queueLimit with
  | some e, some b, some f, some q =>
    some { enabled := e, window := window, budgetBase := b, budgetFraction := f, queueLimit := q
           holdLimit := ⟨holdLimit.toNat, holdLimit.isLt⟩ }
  | _, _, _, _ => none

/-- The bank, first requester and count of READ_MAP and WRITE_MAP: first 0 to 63, count 1 to 64, first + count
at most 64 (R29, R30). -/
def mapRun? (bank first count : Byte) : Option (BankId × Nat × Nat) :=
  match bank? bank with
  | some b =>
    if first.toNat ≤ 63 ∧ 1 ≤ count.toNat ∧ count.toNat ≤ 64 ∧ first.toNat + count.toNat ≤ 64 then
      some (b, first.toNat, count.toNat)
    else none
  | none => none

/-- The bank, first requester and entries of a WRITE_MAP, whose entries are as many as its count (R29, R153). -/
def mapWrite? (bank first count : Byte) (entries : List Byte) : Option (BankId × Nat × List (Option Partition)) :=
  match mapRun? bank first count, mapEntries? entries with
  | some (b, f, n), some es => if es.length = n then some (b, f, es) else none
  | _, _ => none

/-- The source and destination of a COPY_BANK, which differ (R31). -/
def copy? (source destination : Byte) : Option (BankId × BankId) :=
  match bank? source, bank? destination with
  | some s, some d => if s = d then none else some (s, d)
  | _, _ => none

/-- Every argument field of the command is in its range (R153). -/
def argsInRange : LinkCommand → Bool
  | .nop | .readStatus | .readSettings | .cancelSwitch | .stopSchedule | .takeIncident | .clearStatistics
  | .flushQuarantine | .resetRegulator => true
  | .writeSettings p m g d a k t e => (settings? p m g d a k t e).isSome
  | .readPhases b | .closeBank b | .requestSwitch b => (bank? b).isSome
  | .writePhases b n _ => (phases? b n).isSome
  | .readPartition b p => (bankPartition? b p).isSome
  | .writePartition b p e w base f q h => (bankPartition? b p).isSome && (record? e w base f q h).isSome
  | .readMap b f n => (mapRun? b f n).isSome
  | .writeMap b f n es => (mapWrite? b f n es).isSome
  | .copyBank s d => (copy? s d).isSome
  | .setMode m => (targetMode? m).isSome
  | .readStatistics p => (fin? 8 p).isSome
  | .readTransactions f => (fin? 32 f).isSome

/-! ## Reading a frame (R151 to R153) -/

/-- What the checks of a received frame give: an error status, or a command to carry out. -/
inductive FrameResult where
  | error (st : ReplyStatus)
  | sound (c : LinkCommand)
deriving DecidableEq, Repr

/-- The framing check (R151): the command code, the arguments and the CRC byte, where the framing is sound. -/
def splitFrame (bytes : List Byte) (bits : List Bool) : Option (Byte × List Byte × Byte) :=
  match bits, bytes with
  | [], code :: len :: rest =>
    if len.toNat ≤ Config.maxArguments ∧ len.toNat + 1 ≤ rest.length ∧
        (rest.drop (len.toNat + 1)).all (fun b => b == 0xFF#8) = true then
      some (code, rest.take len.toNat, (rest.drop len.toNat).headD 0)
    else none
  | _, _ => none

/-- A command whose argument length is the one it requires (R153), `none` for a code of no command (11.3). The
inner option is `none` for a wrong argument length. -/
def readArgs (code : Byte) (args : List Byte) : Option (Option LinkCommand) :=
  if code = 0x00#8 then some (if args = [] then some .nop else none)
  else if code = 0x01#8 then some (if args = [] then some .readStatus else none)
  else if code = 0x02#8 then some (if args = [] then some .readSettings else none)
  else if code = 0x03#8 then some (match args with
    | [p, m, g1, g0, d, a, k, t, e] => some (.writeSettings p m (halfOfBytes g1 g0) d a k t e)
    | _ => none)
  else if code = 0x10#8 then some (match args with
    | [b] => some (.readPhases b)
    | _ => none)
  else if code = 0x11#8 then some (match args with
    | [b, n, a1, a0, b1, b0, c1, c0, d1, d0, e1, e0, f1, f0, g1, g0, h1, h0] =>
      some (.writePhases b n #v[halfOfBytes a1 a0, halfOfBytes b1 b0, halfOfBytes c1 c0, halfOfBytes d1 d0,
        halfOfBytes e1 e0, halfOfBytes f1 f0, halfOfBytes g1 g0, halfOfBytes h1 h0])
    | _ => none)
  else if code = 0x12#8 then some (match args with
    | [b, p] => some (.readPartition b p)
    | _ => none)
  else if code = 0x13#8 then some (match args with
    | [b, p, e, w, s1, s0, f, q, h] => some (.writePartition b p e w (halfOfBytes s1 s0) f q h)
    | _ => none)
  else if code = 0x14#8 then some (match args with
    | [b, f, n] => some (.readMap b f n)
    | _ => none)
  else if code = 0x15#8 then some (match args with
    | b :: f :: n :: es =>
      if 1 ≤ n.toNat ∧ n.toNat ≤ 64 ∧ es.length = n.toNat then some (.writeMap b f n es) else none
    | _ => none)
  else if code = 0x16#8 then some (match args with
    | [s, d] => some (.copyBank s d)
    | _ => none)
  else if code = 0x17#8 then some (match args with
    | [b] => some (.closeBank b)
    | _ => none)
  else if code = 0x18#8 then some (match args with
    | [b] => some (.requestSwitch b)
    | _ => none)
  else if code = 0x19#8 then some (if args = [] then some .cancelSwitch else none)
  else if code = 0x20#8 then some (match args with
    | [m] => some (.setMode m)
    | _ => none)
  else if code = 0x21#8 then some (if args = [] then some .stopSchedule else none)
  else if code = 0x30#8 then some (if args = [] then some .takeIncident else none)
  else if code = 0x31#8 then some (match args with
    | [p] => some (.readStatistics p)
    | _ => none)
  else if code = 0x32#8 then some (if args = [] then some .clearStatistics else none)
  else if code = 0x33#8 then some (match args with
    | [f] => some (.readTransactions f)
    | _ => none)
  else if code = 0x34#8 then some (if args = [] then some .flushQuarantine else none)
  else if code = 0x3F#8 then some (if args = [] then some .resetRegulator else none)
  else none

/-- The command check (R153), in its order: the code, the argument length, the ranges. -/
def checkCommand (code : Byte) (args : List Byte) : FrameResult :=
  match readArgs code args with
  | none => .error .unknownCommand
  | some none => .error .badArgument
  | some (some c) => if argsInRange c then .sound c else .error .badArgument

/-- The checks of a received frame in their order: framing (R151), CRC (R152), command (R153). -/
def checkFrame (bytes : List Byte) (bits : List Bool) : FrameResult :=
  match splitFrame bytes bits with
  | none => .error .framingError
  | some (code, args, crc) =>
    if crc = crc8 (code :: countByte args.length :: args) then checkCommand code args else .error .crcError

/-! ## Writing a frame (11.2, 11.3) -/

/-- The command code (11.3). -/
def commandCode : LinkCommand → Byte
  | .nop => 0x00#8
  | .readStatus => 0x01#8
  | .readSettings => 0x02#8
  | .writeSettings .. => 0x03#8
  | .readPhases .. => 0x10#8
  | .writePhases .. => 0x11#8
  | .readPartition .. => 0x12#8
  | .writePartition .. => 0x13#8
  | .readMap .. => 0x14#8
  | .writeMap .. => 0x15#8
  | .copyBank .. => 0x16#8
  | .closeBank .. => 0x17#8
  | .requestSwitch .. => 0x18#8
  | .cancelSwitch => 0x19#8
  | .setMode .. => 0x20#8
  | .stopSchedule => 0x21#8
  | .takeIncident => 0x30#8
  | .readStatistics .. => 0x31#8
  | .clearStatistics => 0x32#8
  | .readTransactions .. => 0x33#8
  | .flushQuarantine => 0x34#8
  | .resetRegulator => 0x3F#8

/-- The eight phase lengths of a frame or a reply, A first (11.3). -/
def lengthBytes (v : Vector Half 8) : List Byte :=
  beBytes 2 v[0] ++ beBytes 2 v[1] ++ beBytes 2 v[2] ++ beBytes 2 v[3] ++
  beBytes 2 v[4] ++ beBytes 2 v[5] ++ beBytes 2 v[6] ++ beBytes 2 v[7]

/-- The argument bytes in their order (11.3, 11.6). -/
def commandArgs : LinkCommand → List Byte
  | .nop | .readStatus | .readSettings | .cancelSwitch | .stopSchedule | .takeIncident | .clearStatistics
  | .flushQuarantine | .resetRegulator => []
  | .writeSettings p m g d a k t e => [p, m] ++ beBytes 2 g ++ [d, a, k, t, e]
  | .readPhases b | .closeBank b | .requestSwitch b => [b]
  | .writePhases b n ls => [b, n] ++ lengthBytes ls
  | .readPartition b p => [b, p]
  | .writePartition b p e w base f q h => [b, p, e, w] ++ beBytes 2 base ++ [f, q, h]
  | .readMap b f n => [b, f, n]
  | .writeMap b f n es => [b, f, n] ++ es
  | .copyBank s d => [s, d]
  | .setMode m => [m]
  | .readStatistics p => [p]
  | .readTransactions f => [f]

/-- The command frame: code, argument length, arguments and CRC-8 (11.2). -/
def frameOf (c : LinkCommand) : List Byte :=
  let body := commandCode c :: countByte (commandArgs c).length :: commandArgs c
  body ++ [crc8 body]

/-! ## Replies (11.2) -/

/-- A reply without reply bytes. -/
def replyOf (st : ReplyStatus) : Reply := { status := st, bytes := [] }

/-- The reply OK with reply data. -/
def replyData (bytes : List Byte) : Reply := { status := .ok, bytes := bytes }

/-- The reply stream: status, reply length, reply bytes and CRC-8 (R150). -/
def replyStream (r : Reply) : List Byte :=
  let body := replyStatusCode r.status :: countByte r.bytes.length :: r.bytes
  body ++ [crc8 body]

end Sys2Proof.Machine
end

