-- ==== Sys2Proof/Machine/Flags.lean ====
section
/-! DEFINITION. What the state shows without being stored: the output lines, the bank in force, windows, counts, live transactions, the conditions of a taking and of a release, and the expiries a tick has brought. -/

namespace Sys2Proof.Machine

/-! ## Banks -/

/-- "The other bank" (00_scope.md 5.2). -/
def BankId.other : BankId → BankId
  | .bank0 => .bank1
  | .bank1 => .bank0

/-- A bank by its number. -/
def BankControl.get (b : BankControl) : BankId → Bank
  | .bank0 => b.bank0
  | .bank1 => b.bank1

/-- The ACTIVE bank or none (R25, R42). -/
def BankControl.active (b : BankControl) : Option BankId :=
  if b.bank0.state = .active then some .bank0 else if b.bank1.state = .active then some .bank1 else none

/-- The schedule of the bank in force, which is the ACTIVE bank (R25). While no bank is ACTIVE no rule consults
one; the zero schedule stands there (log 16). -/
def BankControl.inForce (b : BankControl) : Schedule :=
  match b.active with
  | some i => (b.get i).contents
  | none => Schedule.zero

/-- The length in ticks of a phase (R8, R13). -/
def Schedule.ticks (c : Schedule) (p : Phase) : Nat := c.lengths[p].toNat

/-- The phase belongs to the partition's window (R23, R163). -/
def PartRecord.inWindow (r : PartRecord) (p : Phase) : Bool := r.window.getLsbD p.val

/-- The partition's window is open: RUNNING, in one of its phases (R44). -/
def windowOpen (s : State) (p : Partition) : Bool :=
  match s.seq.state, s.seq.phase with
  | .running, some ph => s.banks.inForce.parts[p].inWindow ph
  | _, _ => false

/-- Classification by the Requester Map of the bank in force (R45); `none` is UNASSIGNED. -/
def classify (s : State) (r : Requester) : Option Partition := s.banks.inForce.map[r]

/-! ## Requests -/

/-- The length in beats of a taken request. -/
def Taken.length (t : Taken) : Nat := t.lenLess1.val + 1

/-- The length in beats of a transaction of the OTT. -/
def Transaction.length (t : Transaction) : Nat := t.lenLess1.val + 1

/-- What the port takes of a presented request: the header, and for a WRITE its first `length` beats (R73). -/
def takenOf (q : Request) : Taken :=
  { requester := q.requester, tag := q.tag, kind := q.kind, addr := q.addr, lenLess1 := q.lenLess1
    data := match q.kind with
      | .write => q.data.toList.take q.length
      | .read => [] }

/-- The data beats of a memory response: as many as its beat count, at most sixteen (11.7). -/
def beatsOf (r : Response) : List BeatData := r.data.toList.take r.beatCount.val

/-! ## Hold Store and OTT -/

def OttEntry.isFree : OttEntry → Bool
  | .free => true
  | .opened .. | .expired .. => false

def OttEntry.isOpen : OttEntry → Bool
  | .opened .. => true
  | .free | .expired .. => false

def OttEntry.isExpired : OttEntry → Bool
  | .expired .. => true
  | .free | .opened .. => false

/-- The entry's deadline count has been brought to 0 and its expiry has not been handled (log 3). -/
def OttEntry.isDue : OttEntry → Bool
  | .opened _ n => n == 0
  | .free | .expired .. => false

/-- The entry is OPEN with this requester and tag (R77). -/
def OttEntry.carries (r : Requester) (t : Tag) : OttEntry → Bool
  | .opened x _ => x.requester == r && x.tag == t
  | .free | .expired .. => false

/-- The held entry has this requester and tag (R77). -/
def HeldEntry.carries (r : Requester) (t : Tag) (e : HeldEntry) : Bool :=
  e.request.requester == r && e.request.tag == t

/-- The Hold Store count (R90). -/
def storeCount (s : State) : Nat := (s.hold.toList.map List.length).sum

/-- The number of OPEN entries (R136). -/
def openCount (s : State) : Nat := s.ott.toList.countP OttEntry.isOpen

/-- The number of EXPIRED entries (R136). -/
def expiredCount (s : State) : Nat := s.ott.toList.countP OttEntry.isExpired

/-- The live count: held entries plus OPEN entries (R75). -/
def liveCount (s : State) : Nat := storeCount s + openCount s

/-- Some live transaction carries the requester and tag (R77). -/
def liveTag (s : State) (r : Requester) (t : Tag) : Bool :=
  s.hold.toList.any (fun q => q.any (HeldEntry.carries r t)) || s.ott.toList.any (OttEntry.carries r t)

/-- The FREE entry with the lowest index (R121). -/
def lowestFree (s : State) : Option OttIndex := (List.finRange 32).find? fun i => (s.ott[i]).isFree

/-- The hold queues together hold no entry (R59). -/
def storeEmpty (s : State) : Bool := s.hold.toList.all List.isEmpty

/-! ## Conditions of a taking and of a release -/

/-- The mode in force passes requests on the direct path (R61, R62). -/
def Mode.passes : Mode → Bool
  | .straight | .observe => true
  | .enforce | .draining => false

/-- The mode in force releases from the hold queues (R110). -/
def Mode.releases : Mode → Bool
  | .enforce | .draining => true
  | .straight | .observe => false

/-- The Offer Slot is empty, an OTT entry is FREE and DRST_N is not asserted: condition (c) of R75, and the
same three among the conditions of R110. -/
def slotReady (s : State) : Bool := s.offer.isNone && (lowestFree s).isSome && !s.pins.drst

/-- The conditions of R75; while RST_N is asserted nothing is taken (R87). -/
def canTake (s : State) : Bool :=
  !s.pins.rst && decide (s.returnQueue.length + liveCount s < Config.returnBound) &&
  decide (s.mode.inForce ≠ .draining) && (!s.mode.inForce.passes || slotReady s)

/-- The eligibility test of the mode in force (R111, R112). -/
def eligible (s : State) (p : Partition) : Bool :=
  match s.hold[p] with
  | [] => false
  | e :: _ =>
    match s.mode.inForce with
    | .enforce => windowOpen s p && decide ((e.request.length : Int) ≤ s.credit[p].remaining)
    | .draining => true
    | .straight | .observe => false

/-- The partitions in ascending cyclic order starting with the one after the pointer (R113). -/
def rotation (p : Partition) : List Partition := (List.finRange 8).map fun i => p + 1 + i

/-- The first eligible partition in rotation (R113). -/
def chosen (s : State) : Option Partition := (rotation s.pointer).find? fun p => eligible s p

/-- The conditions of R110. -/
def canRelease (s : State) : Bool := s.mode.inForce.releases && slotReady s && (chosen s).isSome

/-! ## Expiries that a tick has brought (R7, R11, R123; log 3) -/

/-- The current phase has run out and its expiry is to be handled (R7). -/
def phaseDue (s : State) : Bool := decide (s.seq.state = .running) && s.seq.ticksLeft == 0

/-- The guard in force has been reached and its expiry is to be handled (R11). -/
def guardDue (s : State) : Bool :=
  decide (s.seq.state = .gap) && s.seq.guardInForce != 0 && decide (s.seq.guardInForce ≤ s.seq.gapElapsed)

/-- Some deadline has run out and its expiry is to be handled (R123). -/
def deadlineDue (s : State) : Bool := s.ott.toList.any OttEntry.isDue

/-- No expiry is to be handled. -/
def quiet (s : State) : Bool := !phaseDue s && !guardDue s && !deadlineDue s

/-! ## Lines and readings -/

/-- ALERT_N is asserted (R146). -/
def alertAsserted (s : State) : Bool :=
  (s.settings.alertEnable && decide (s.settings.alertThreshold.val ≤ s.incidents.queue.length)) ||
  decide (0 < s.incidents.lost)

/-- FRAME_OUT is high (R14). -/
def frameOutHigh (s : State) : Bool := decide (0 < s.frameOutLeft)

/-- Byte `k` (from 0) of what MISO carries in the transaction in progress, `none` while MISO is not driven
(R150); FFh for the whole of an early transaction (R154). -/
def misoByte (s : State) (k : Nat) : Option Byte :=
  match s.link.state with
  | .receiving false => some ((replyStream s.link.reply).getD k 0xFF#8)
  | .receiving true => some 0xFF#8
  | .idle | .executing _ => none

/-- Bit `k` (from 0) of what MISO carries in the transaction in progress: the bits of its bytes in the order they
are sent, the most significant of each byte first (R150, R162). -/
def misoBit (s : State) (k : Nat) : Option Bool := (misoByte s (k / 8)).bind fun b => (byteBits b)[k % 8]?

/-- The response presented at the Requester Port (R85). -/
def presentedUp (s : State) : Option UpResponse := s.returnQueue.head?

/-- The ticks-remaining figure of READ_STATUS (R22). -/
def ticksFigure (s : State) : Nat :=
  match s.seq.state with
  | .running => s.seq.ticksLeft
  | .gap => if s.seq.guardInForce = 0 then 0 else s.seq.guardInForce - s.seq.gapElapsed
  | .stopped => 0

/-- The frame number an incident is recorded under, absent while STOPPED (R22, R137). -/
def incidentFrame (s : State) : Option Word32 :=
  match s.seq.state with
  | .stopped => none
  | .running | .gap => some s.seq.frame

/-- The phase an incident record and READ_STATUS show (R22, R138): A to H, GAP, or none while STOPPED. -/
def shownPhase (s : State) : Option ShownPhase :=
  match s.seq.state with
  | .stopped => none
  | .running => s.seq.phase.map .letter
  | .gap => some .gap

/-- The REFCLK periods of one tick (R1). -/
def tickPeriod (s : State) : Nat := (s.settings.prescale.val + 1) * 32

end Sys2Proof.Machine
end

