-- ==== Sys2Proof/Machine/Ops.lean ====
section
/-! DEFINITION. The operations that several commands share: incidents, responses, charges, openings, departures from the hold queues, the frame start with its reactions, the expiries of a tick, and link executions. -/

namespace Sys2Proof.Machine

/-! ## Incidents (R141 to R143) -/

/-- An incident as a block hands it to the Incident Unit (R139). -/
structure Incident where
  kind      : IncidentKind
  partition : Option Partition
  requester : Option Requester
  tag       : Option Tag
  addr      : Option BeatAddr
  detail    : Half
deriving DecidableEq, Repr

/-- An incident that carries a detail alone. -/
def Incident.plain (k : IncidentKind) (detail : Half) : Incident :=
  { kind := k, partition := none, requester := none, tag := none, addr := none, detail := detail }

/-- An incident that names a request, and its partition where one is known. -/
def Incident.ofRequest (k : IncidentKind) (p : Option Partition) (q : Taken) (detail : Half) : Incident :=
  { kind := k, partition := p, requester := some q.requester, tag := some q.tag, addr := some q.addr
    detail := detail }

/-- The newest record matches the incident: kind, partition, requester and frame (R141). -/
def IncidentUnit.matchesNewest (u : IncidentUnit) (n : IncidentRecord) (i : Incident) (frame : Option Word32) : Bool :=
  decide (n.kind = i.kind) && decide (n.partition = i.partition) && decide (n.requester = i.requester) &&
  decide (u.newestFrame = frame)

/-- The incident is folded into the newest record, whose repeat count saturates at 65535 (R141). -/
def IncidentUnit.coalesce (u : IncidentUnit) (n : IncidentRecord) : IncidentUnit :=
  { u with queue := u.queue.dropLast ++ [{ n with repeatCount := min (n.repeatCount + 1) 65535 }] }

/-- The record a new incident makes (R138, R142). -/
def IncidentUnit.newRecord (u : IncidentUnit) (i : Incident) (frame : Option Word32) (phase : Option ShownPhase) :
    IncidentRecord :=
  { seq := u.nextSeq, kind := i.kind, frame := frame.map fun f => f.extractLsb' 0 16, phase := phase
    partition := i.partition, requester := i.requester, tag := i.tag, addr := i.addr, repeatCount := 1
    detail := i.detail }

/-- The incident is added below sixteen records (R142) and lost at sixteen (R143). -/
def IncidentUnit.addOrLose (u : IncidentUnit) (i : Incident) (frame : Option Word32) (phase : Option ShownPhase) :
    IncidentUnit :=
  if u.queue.length < Config.incidentCapacity then
    { u with queue := u.queue ++ [u.newRecord i frame phase], nextSeq := u.nextSeq + 1, newestFrame := frame }
  else { u with lost := min (u.lost + 1) 255 }

/-- Recording an incident: coalesced, else added, else lost, tested in that order (R141 to R143). -/
def IncidentUnit.take (u : IncidentUnit) (i : Incident) (frame : Option Word32) (phase : Option ShownPhase) :
    IncidentUnit :=
  match u.queue.getLast? with
  | some n => if u.matchesNewest n i frame then u.coalesce n else u.addOrLose i frame phase
  | none => u.addOrLose i frame phase

/-- An incident is recorded under the frame and phase the sequencer holds (R22, R138). -/
def record (i : Incident) (s : State) : State :=
  { s with incidents := s.incidents.take i (incidentFrame s) (shownPhase s) }

/-! ## Responses (R82) -/

/-- A response enters the Return Queue at the tail (R82). -/
def respond (r : UpResponse) (s : State) : State := { s with returnQueue := s.returnQueue ++ [r] }

/-- A response without data under a request's own requester and tag (R82). -/
def UpResponse.bare (r : Requester) (t : Tag) (st : UpStatus) : UpResponse :=
  { requester := r, tag := t, status := st, data := [] }

/-! ## Credit and statistics (R48 to R51, R56) -/

/-- A charge of `n` beats, down to the floor of -65536 (R50, R51). -/
def Credit.charge (c : Credit) (n : Nat) : Credit :=
  if c.remaining - (n : Int) < -65536 then { c with remaining := -65536, charged := c.granted + 65536 }
  else { c with remaining := c.remaining - (n : Int), charged := c.charged + n }

/-- The refill of an enabled partition (R48) and of a disabled one (R49). -/
def Credit.refill (c : Credit) (r : PartRecord) : Credit :=
  if r.enabled then
    if h : c.fraction.val + r.budgetFraction.val ≥ 8 then
      { granted := r.budgetBase.val + 1, remaining := (r.budgetBase.val + 1 : Nat), charged := 0
        fraction := ⟨c.fraction.val + r.budgetFraction.val - 8, by omega⟩ }
    else
      { granted := r.budgetBase.val, remaining := (r.budgetBase.val : Nat), charged := 0
        fraction := ⟨c.fraction.val + r.budgetFraction.val, by omega⟩ }
  else { c with granted := 0, remaining := 0, charged := 0 }

/-- The credit figures of a stopped part: all three 0, the accumulator kept (R58). -/
def Credit.stop (c : Credit) : Credit := { c with granted := 0, remaining := 0, charged := 0 }

/-- The counters of one charging release (R56). -/
def Stats.release (t : Stats) (n : Nat) : Stats :=
  { t with released := t.released + 1, beatsCharged := t.beatsCharged + BitVec.ofNat 32 n }

def Stats.refuse (t : Stats) : Stats := { t with refused := t.refused + 1 }

def Stats.expire (t : Stats) : Stats := { t with holdExpired := t.holdExpired + 1 }

def Stats.timeOut (t : Stats) : Stats := { t with timedOut := t.timedOut + 1 }

/-- A release charges the request's length to a partition and counts it (R50, R51, R56). -/
def charge (p : Partition) (n : Nat) (s : State) : State :=
  { s with credit := setAt s.credit p (s.credit[p].charge n), stats := setAt s.stats p (s.stats[p].release n) }

/-- An event of a partition is counted, where it carries a partition (R56). -/
def count (f : Stats → Stats) (p : Option Partition) (s : State) : State :=
  { s with stats := match p with
      | some p => setAt s.stats p (f s.stats[p])
      | none => s.stats }

/-! ## Opening an entry (R121) -/

/-- The deadline in ticks under the setting D (R122). -/
def deadlineTicks (s : State) : Nat := (s.settings.deadline.val + 1) * 256

/-- The entry and the offer of a request released or passed under an index (R74, R121). -/
def openAt (i : OttIndex) (q : Taken) (p : Option Partition) (s : State) : State :=
  { s with
    ott := setAt s.ott i (.opened { requester := q.requester, tag := q.tag, kind := q.kind, addr := q.addr
                                    lenLess1 := q.lenLess1, partition := p, inSlot := true } (deadlineTicks s))
    offer := some { requester := q.requester, mtag := i, kind := q.kind, addr := q.addr, lenLess1 := q.lenLess1
                    data := q.data } }

/-- The opening takes the FREE entry with the lowest index (R121); its callers act only when one is FREE. -/
def openEntry (q : Taken) (p : Option Partition) (s : State) : State :=
  match lowestFree s with
  | some i => openAt i q p s
  | none => s

/-! ## Mode Control (R67, R69, R70) -/

/-- The mode in force becomes `m`, and MODE_CHANGED is recorded when that is a change (R70). -/
def changeMode (m : Mode) (target : Option Mode) (s : State) : State :=
  let s' := { s with mode := { s.mode with inForce := m, drainTarget := target } }
  if m = s.mode.inForce then s' else record (Incident.plain .modeChanged ((modeCode m).zeroExtend 16)) s'

/-- The drain ends with the departure of the last held entry (R69). A drain without a target cannot arise; it
would end in STRAIGHT (log 16). -/
def completeDrain (s : State) : State :=
  if s.mode.inForce = .draining ∧ storeEmpty s = true then
    changeMode (s.mode.drainTarget.getD .straight) none s
  else s

/-- The mode in force and the drain target that taking a request brings (the table of R67). -/
def takenMode (inForce requested : Mode) (target : Option Mode) (empty : Bool) : Mode × Option Mode :=
  match inForce, requested with
  | .straight, r => (r, none)
  | .observe, r => (r, none)
  | .enforce, .enforce => (.enforce, none)
  | .enforce, r => if empty then (r, none) else (.draining, some r)
  | .draining, .enforce => (.enforce, none)
  | .draining, .draining => (.draining, target)
  | .draining, r => (.draining, some r)

/-- Mode Control's reaction to a frame start (R67). -/
def modeReaction (s : State) : State :=
  match s.mode.requested with
  | none => s
  | some r =>
    let m := takenMode s.mode.inForce r s.mode.drainTarget (storeEmpty s)
    let s' := changeMode m.1 m.2 s
    { s' with mode := { s'.mode with requested := none } }

/-! ## Hold queues (R99 to R103) -/

/-- The age of a held entry at the frame number held, modulo 2^32 (R101). -/
def HeldEntry.age (e : HeldEntry) (frame : Word32) : Nat := (frame - e.admitted).toNat

/-- The entries of a queue that leave at a frame start, head first, and the detail of their incident (R99 to
R101). -/
def leaving (s : State) (p : Partition) : List HeldEntry × Half :=
  let r := s.banks.inForce.parts[p]
  let q := s.hold[p]
  if r.enabled = false then (q, 1)
  else if r.holdLimit.val = 0 then ([], 0)
  else (q.takeWhile fun e => decide (r.holdLimit.val ≤ e.age s.seq.frame), 0)

/-- The head of a queue leaves (R90). -/
def popHead (p : Partition) (s : State) : State := { s with hold := setAt s.hold p s.hold[p].tail }

/-- One departure by hold expiry: the head leaves, is answered EXPIRED, recorded and counted, and a drain that
it empties ends (R102). -/
def departExpired (p : Partition) (detail : Half) (s : State) (e : HeldEntry) : State :=
  completeDrain
    (count Stats.expire (some p)
      (record (Incident.ofRequest .holdExpired (some p) e.request detail)
        (respond (UpResponse.bare e.request.requester e.request.tag .expired) (popHead p s))))

/-- One queue's part of the reaction to a frame start (R99). -/
def expireQueue (s : State) (p : Partition) : State :=
  (leaving s p).1.foldl (departExpired p (leaving s p).2) s

/-- The hold queues' reaction to a frame start, from P0's queue to P7's (R99). -/
def holdReaction (s : State) : State := (List.finRange 8).foldl expireQueue s

/-! ## Bank Control (R35, R36) -/

/-- What Bank Control decided at a frame start (R35). -/
inductive SwitchAttempt where
  | notDue
  | switched (b : BankId)
  | declined (b : BankId)
deriving DecidableEq, Repr

def BankControl.set (c : BankControl) (i : BankId) (b : Bank) : BankControl :=
  match i with
  | .bank0 => { c with bank0 := b }
  | .bank1 => { c with bank1 := b }

def BankControl.setState (c : BankControl) (i : BankId) (st : BankState) : BankControl :=
  c.set i { c.get i with state := st }

/-- A switch attempt is due at a later frame start (R35). -/
def switchDue (s : State) : Bool :=
  !s.seq.firstPending &&
  (s.banks.pendingSwitch.isSome ||
    (s.settings.alternation && decide (s.banks.framesInBank = 2 ^ s.settings.exponent.val)))

/-- Bank Control's decision when the sequencer asks for the bank in force (R35). -/
def bankDecision (s : State) : SwitchAttempt × BankControl :=
  match s.banks.active with
  | none => (.notDue, s.banks)
  | some a =>
    if switchDue s then
      if (s.banks.get a.other).state = .ready then
        (.switched a.other,
          { (s.banks.setState a .ready).setState a.other .active with pendingSwitch := none })
      else (.declined a.other, { s.banks with pendingSwitch := none })
    else (.notDue, s.banks)

/-- Bank Control's reaction to the frame start announcement: the frames-in-bank count and the record of what it
decided (R36). -/
def bankReaction (first : Bool) (a : SwitchAttempt) (s : State) : State :=
  match a with
  | .notDue =>
    { s with banks := { s.banks with
        framesInBank := if first then 1 else min (s.banks.framesInBank + 1) 65535 } }
  | .switched b =>
    record (Incident.plain .bankSwitched ((bankCode b).zeroExtend 16))
      { s with banks := { s.banks with framesInBank := 1 } }
  | .declined b =>
    record (Incident.plain .switchDeclined ((bankStateCode (s.banks.get b).state).zeroExtend 16))
      { s with banks := { s.banks with framesInBank := 1 } }

/-! ## Frame start (R12, R13) -/

/-- The Credit Unit's refill of all eight partitions (R48, R49). -/
def refillReaction (s : State) : State :=
  { s with credit := Vector.ofFn fun p => s.credit[p].refill s.banks.inForce.parts[p] }

/-- The new frame begins in phase A of the bank named, and FRAME_OUT pulses (R12 to R14). -/
def beginFrame (c : Cause) (b : BankControl) (s : State) : State :=
  { s with
    banks := b
    seq := { s.seq with
      state := .running, frame := s.seq.frame + 1, phase := some 0, ticksLeft := b.inForce.ticks 0
      cause := some c, firstPending := false }
    frameOutLeft := Config.frameOutWidth }

/-- Three reactions taken in one of their orders (R13, R140). -/
def inOrder (o : ReactionOrder) (bank mode hold : State → State) (s : State) : State :=
  match o with
  | .bankModeHold => hold (mode (bank s))
  | .bankHoldMode => mode (hold (bank s))
  | .modeBankHold => hold (bank (mode s))
  | .modeHoldBank => bank (hold (mode s))
  | .holdBankMode => mode (bank (hold s))
  | .holdModeBank => bank (mode (hold s))

/-- At least two of the three reactions of a frame start do something, so their order can be seen (log 4). -/
def reactionsInteract (a : SwitchAttempt) (s : State) : Bool :=
  let bank := decide (a ≠ .notDue)
  let mode := s.mode.requested.isSome
  let hold := (List.finRange 8).any fun p => !(leaving s p).1.isEmpty
  (bank && mode) || (bank && hold) || (mode && hold)

/-- The reactions of Bank Control, Mode Control and the hold queues to one frame start announcement. Where their
order can be seen it is a free value (R13, R68, R140; log 4). -/
def frameReactions (first : Bool) (a : SwitchAttempt) (s : State) : State :=
  if reactionsInteract a s then
    inOrder (Config.frameReactionOrder s.freeIndex) (bankReaction first a) modeReaction holdReaction
      { s with freeIndex := s.freeIndex + 1 }
  else holdReaction (modeReaction (bankReaction first a s))

/-- A frame start: Bank Control decides, the frame begins, credit is refilled, and the announcement reaches the
blocks (R12, R13). The refill touches nothing the other reactions read, so its place is not seen (log 2). -/
def frameStart (c : Cause) (s : State) : State :=
  let d := bankDecision s
  frameReactions s.seq.firstPending d.1 (refillReaction (beginFrame c d.2 s))

/-! ## Sequencer events (R5, R8 to R11) -/

/-- Entry to GAP (R10). -/
def enterGap (s : State) : State :=
  { s with seq := { s.seq with
      state := .gap, phase := none, ticksLeft := 0, gapElapsed := 0
      guardInForce := s.settings.syncGuard.toNat } }

/-- The start of the sequencer on a bank just made ACTIVE (R5). -/
def startSequencer (s : State) : State :=
  let s' := { s with seq := { s.seq with frame := 0xFFFFFFFF#32, firstPending := true } }
  match s.settings.syncMode with
  | .free => frameStart .timed s'
  | .follow => enterGap s'

/-- The expiry of the current phase (R8, R9). -/
def expirePhase (s : State) : State :=
  match s.seq.phase with
  | none => s
  | some p =>
    if h : p.val + 1 < s.banks.inForce.phaseCount.val then
      { s with seq := { s.seq with
          phase := some ⟨p.val + 1, by omega⟩
          ticksLeft := s.banks.inForce.ticks ⟨p.val + 1, by omega⟩ } }
    else
      match s.settings.syncMode with
      | .free => frameStart .timed s
      | .follow => enterGap s

/-- The expiry of the guard in force (R11). -/
def expireGuard (s : State) : State :=
  frameStart .guard (record (Incident.plain .syncMissed (BitVec.ofNat 16 s.seq.guardInForce)) s)

/-- The deadline expiry of an entry whose count is 0 (R124). -/
def expireEntry (s : State) (i : OttIndex) : State :=
  match s.ott[i] with
  | .opened t 0 =>
    count Stats.timeOut t.partition
      (record { kind := .responseTimeout, partition := t.partition, requester := some t.requester
                tag := some t.tag, addr := some t.addr, detail := BitVec.ofNat 16 i.val }
        (respond (UpResponse.bare t.requester t.tag .timeout) { s with ott := setAt s.ott i (.expired t) }))
  | .opened _ (_ + 1) => s
  | .free => s
  | .expired _ => s

/-- The OTT's reaction to a tick: the expiries it brings, in ascending index order (R124). -/
def ottReaction (s : State) : State := (List.finRange 32).foldl expireEntry s

/-- The Frame Sequencer's reaction to a tick that brings an expiry (R7, R11). -/
def seqReaction (s : State) : State :=
  if phaseDue s then expirePhase s else if guardDue s then expireGuard s else s

/-- The expiries a tick has brought are handled at once (R3, R7, R123): before any command but the commands that
handle them. Where both blocks have one, which reacts first is a free value (log 3, log 5). -/
def settle (s : State) : State :=
  if quiet s then s
  else if (phaseDue s || guardDue s) && deadlineDue s then
    if Config.ottReactsFirst s.freeIndex then seqReaction (ottReaction { s with freeIndex := s.freeIndex + 1 })
    else ottReaction (seqReaction { s with freeIndex := s.freeIndex + 1 })
  else ottReaction (seqReaction s)

/-- A command other than an expiry acts once the expiries of the last tick have been handled (log 3). -/
def event (f : State → State) (s : State) : Host.Outcome State Fault Refusal := .next (f (settle s))

/-! ## Ticks (R1, R7, R11, R123) -/

/-- A tick lowers the deadline count of an OPEN entry by one (R123). -/
def OttEntry.countTick : OttEntry → OttEntry
  | .opened t n => .opened t (n - 1)
  | .free => .free
  | .expired t => .expired t

/-- A tick at the Frame Sequencer (R7, R11). -/
def Sequencer.countTick (q : Sequencer) : Sequencer :=
  match q.state with
  | .stopped => q
  | .running => { q with ticksLeft := q.ticksLeft - 1 }
  | .gap => { q with gapElapsed := min (q.gapElapsed + 1) 65535 }

/-- A tick: the divider starts a new period, and the tick is counted by both blocks (R1). None is produced while
RST_N is asserted. DESIGN CHOICE (log 11, log 23): the divider starts anew whatever its count, and the row TICK does
not run the FRAME_OUT pulse down. -/
def countTick (s : State) : State :=
  if s.pins.rst then s
  else { s with divider := 0, seq := s.seq.countTick, ott := mapAll OttEntry.countTick s.ott }

/-- One REFCLK period: the FRAME_OUT pulse runs down (R14) and the divider counts, a tick coming at the end of
(prescale + 1) x 32 periods (R1). DESIGN CHOICE (log 11): this is the step on an empty queue. -/
def refclk (s : State) : State :=
  if s.pins.rst then s
  else
    let s' := { s with frameOutLeft := s.frameOutLeft - 1 }
    if tickPeriod s ≤ s.divider + 1 then countTick s' else { s' with divider := s.divider + 1 }

end Sys2Proof.Machine
end

