-- ==== Sys2Proof/Machine/Reports.lean ====
section
/-! DEFINITION. The byte layouts of the replies that carry data (11.3 to 11.6). -/

namespace Sys2Proof.Machine

/-- The status report, 34 bytes (R157, 11.4). -/
def statusBytes (s : State) : List Byte :=
  [seqStateCode s.seq.state] ++ beBytes 4 s.seq.frame ++ [codeOr shownPhaseCode (shownPhase s)] ++
  beBytes 2 (BitVec.ofNat 16 (ticksFigure s)) ++ [codeOr causeCode s.seq.cause] ++
  [bankStateCode s.banks.bank0.state, bankStateCode s.banks.bank1.state, codeOr bankCode s.banks.active,
   codeOr bankCode s.banks.pendingSwitch] ++
  beBytes 2 (BitVec.ofNat 16 s.banks.framesInBank) ++
  [modeCode s.mode.inForce, codeOr modeCode s.mode.requested, codeOr modeCode s.mode.drainTarget] ++
  s.hold.toList.map (fun q => countByte q.length) ++
  [countByte (storeCount s), countByte (openCount s), countByte (expiredCount s), onOffCode s.offer.isSome,
   countByte s.returnQueue.length, countByte s.incidents.queue.length, countByte s.incidents.lost,
   onOffCode s.pins.drst]

/-- The eight settings, 9 bytes (R158, 11.6). -/
def settingsBytes (t : Settings) : List Byte :=
  [finCode t.prescale, syncModeCode t.syncMode] ++ beBytes 2 t.syncGuard ++
  [finCode t.deadline, onOffCode t.alternation, finCode t.exponent, finCode t.alertThreshold,
   onOffCode t.alertEnable]

/-- The phase table, 17 bytes (11.3). -/
def phasesBytes (c : Schedule) : List Byte := finCode c.phaseCount :: lengthBytes c.lengths

/-- A partition record, 7 bytes (11.6). -/
def recordBytes (r : PartRecord) : List Byte :=
  [onOffCode r.enabled, r.window] ++ beBytes 2 (BitVec.ofNat 16 r.budgetBase.val) ++
  [finCode r.budgetFraction, finCode r.queueLimit, finCode r.holdLimit]

/-- A map entry: the partition, or FFh for UNASSIGNED (11.3). -/
def mapEntryByte (e : Option Partition) : Byte := codeOr finCode e

/-- A 40-bit address, 5 bytes (R162). -/
def addrBytes (a : BeatAddr) : List Byte := beBytes 5 a.byteAddr

/-- One bit of a presence or flags byte. -/
def flagBit (b : Bool) (n : Nat) : Byte := if b then 1#8 <<< n else 0#8

/-- The presence byte of an incident record (11.5). -/
def presenceByte (r : IncidentRecord) : Byte :=
  flagBit r.frame.isSome 0 ||| flagBit r.partition.isSome 1 ||| flagBit r.requester.isSome 2 |||
  flagBit r.tag.isSome 3 ||| flagBit r.addr.isSome 4

/-- An incident record, 19 bytes; an absent field is sent as 00h (R163, 11.5). -/
def incidentBytes (r : IncidentRecord) : List Byte :=
  beBytes 2 r.seq ++ [incidentCode r.kind, presenceByte r] ++ beBytes 2 (r.frame.getD 0) ++
  [(r.phase.map shownPhaseCode).getD 0#8, (r.partition.map finCode).getD 0#8, (r.requester.map finCode).getD 0#8,
   r.tag.getD 0#8] ++
  addrBytes (r.addr.getD 0) ++ beBytes 2 (BitVec.ofNat 16 r.repeatCount) ++ beBytes 2 r.detail

/-- The statistics and credit items of one partition, 31 bytes (R57, 11.6). -/
def statisticsBytes (t : Stats) (c : Credit) : List Byte :=
  beBytes 4 t.released ++ beBytes 4 t.beatsCharged ++ beBytes 4 t.refused ++ beBytes 4 t.holdExpired ++
  beBytes 4 t.timedOut ++ beBytes 2 (BitVec.ofNat 16 c.granted) ++ beBytes 4 (BitVec.ofInt 32 c.remaining) ++
  beBytes 4 (BitVec.ofNat 32 c.charged) ++ [finCode c.fraction]

/-- One listed entry, 13 bytes: bit 0 of the flags is the state, bit 1 the kind, bit 2 in-Offer-Slot (11.6). -/
def transactionBytes (i : OttIndex) (expired : Bool) (t : Transaction) (ticks : Nat) : List Byte :=
  [finCode i, flagBit expired 0 ||| flagBit (decide (t.kind = .write)) 1 ||| flagBit t.inSlot 2,
   finCode t.requester, t.tag] ++
  addrBytes t.addr ++ [countByte t.length, codeOr finCode t.partition] ++ beBytes 2 (BitVec.ofNat 16 ticks)

/-- The listing of one entry of the OTT, `none` for a FREE one (R135). -/
def listEntry (s : State) (i : OttIndex) : Option (List Byte) :=
  match s.ott[i] with
  | .free => none
  | .opened t n => some (transactionBytes i false t n)
  | .expired t => some (transactionBytes i true t 0)

/-- The entries listed from a first index upward, in ascending order (R135). -/
def listedFrom (s : State) (first : OttIndex) : List (List Byte) :=
  ((List.finRange 32).filter fun i => decide (first ≤ i)).filterMap (listEntry s)

/-- The transaction listing: the number of entries at or above the first index, and the first sixteen of them
(R135, 11.6). -/
def listingBytes (s : State) (first : OttIndex) : List Byte :=
  countByte (listedFrom s first).length :: ((listedFrom s first).take 16).flatten

end Sys2Proof.Machine
end

