-- ==== Sys2Proof/Machine/Banks.lean ====
section
/-! DEFINITION. The bank commands of the Configuration Link (Chapter 2): each gives the state after its execution and its reply. -/

namespace Sys2Proof.Machine

/-- A command that changes nothing in any block and replies with a status alone (R153, R155). -/
def refuse (st : ReplyStatus) (s : State) : State × Reply := (s, replyOf st)

/-! ## Reading a bank (R30) -/

/-- READ_PHASES. -/
def cmdReadPhases (bank : Byte) (s : State) : State × Reply :=
  match bank? bank with
  | none => refuse .badArgument s
  | some b => (s, replyData (phasesBytes (s.banks.get b).contents))

/-- READ_PARTITION. -/
def cmdReadPartition (bank partition : Byte) (s : State) : State × Reply :=
  match bankPartition? bank partition with
  | none => refuse .badArgument s
  | some (b, p) => (s, replyData (recordBytes (s.banks.get b).contents.parts[p]))

/-- READ_MAP. -/
def cmdReadMap (bank first count : Byte) (s : State) : State × Reply :=
  match mapRun? bank first count with
  | none => refuse .badArgument s
  | some (b, f, n) => (s, replyData ((((s.banks.get b).contents.map.toList.drop f).take n).map mapEntryByte))

/-! ## Writing a bank (R26 to R29) -/

/-- The second step of a write: BANK_ACTIVE, or every value stored and the bank EDITING (R26). -/
def writeBank (b : BankId) (f : Schedule → Schedule) (s : State) : State × Reply :=
  if (s.banks.get b).state = .active then refuse .bankActive s
  else
    ({ s with banks := s.banks.set b { contents := f (s.banks.get b).contents, state := .editing } }, Reply.done)

/-- WRITE_PHASES (R27). -/
def cmdWritePhases (bank count : Byte) (lengths : Vector Half 8) (s : State) : State × Reply :=
  match phases? bank count with
  | none => refuse .badArgument s
  | some (b, n) => writeBank b (fun c => { c with phaseCount := n, lengths := lengths }) s

/-- WRITE_PARTITION (R28). -/
def cmdWritePartition (bank partition enabled window : Byte) (base : Half) (fraction queueLimit holdLimit : Byte)
    (s : State) : State × Reply :=
  match bankPartition? bank partition, record? enabled window base fraction queueLimit holdLimit with
  | some (b, p), some r => writeBank b (fun c => { c with parts := setAt c.parts p r }) s
  | _, _ => refuse .badArgument s

/-- The map with a run of entries replaced from a first requester upward (R29). -/
def replaceRun (first : Nat) (entries : List (Option Partition)) (m : Vector (Option Partition) 64) :
    Vector (Option Partition) 64 :=
  Vector.ofFn fun r =>
    if first ≤ r.val then (entries[r.val - first]?).getD m[r] else m[r]

/-- WRITE_MAP (R29). -/
def cmdWriteMap (bank first count : Byte) (entries : List Byte) (s : State) : State × Reply :=
  match mapWrite? bank first count entries with
  | none => refuse .badArgument s
  | some (b, f, es) => writeBank b (fun c => { c with map := replaceRun f es c.map }) s

/-- COPY_BANK (R31). -/
def cmdCopyBank (source destination : Byte) (s : State) : State × Reply :=
  match copy? source destination with
  | none => refuse .badArgument s
  | some (src, dst) => writeBank dst (fun _ => (s.banks.get src).contents) s

/-! ## Closing a bank (R32, R33) -/

/-- The lowest index that fails a check, among a table's indices in ascending order (R33). -/
def lowestFailing {n : Nat} (fails : Fin n → Bool) : Option (Fin n) := (List.finRange n).find? fails

/-- Check 2: a phase within the phase count has length 0. -/
def phaseFails (c : Schedule) (p : Phase) : Bool := decide (p.val < c.phaseCount.val) && decide (c.ticks p = 0)

/-- Check 3: an enabled partition's window holds a phase at or beyond the phase count. -/
def windowFails (c : Schedule) (p : Partition) : Bool :=
  c.parts[p].enabled &&
  (List.finRange 8).any fun ph => c.parts[p].inWindow ph && decide (c.phaseCount.val ≤ ph.val)

/-- Check 4: an enabled partition's window is empty. -/
def windowEmpty (c : Schedule) (p : Partition) : Bool := c.parts[p].enabled && decide (c.parts[p].window = 0)

/-- The sum of the queue limits of the enabled partitions, for check 5. -/
def limitSum (c : Schedule) : Nat :=
  (c.parts.toList.map fun r => if r.enabled then r.queueLimit.val else 0).sum

/-- Check 6: a map entry names a disabled partition. -/
def mapFails (c : Schedule) (r : Requester) : Bool :=
  match c.map[r] with
  | some p => !c.parts[p].enabled
  | none => false

/-- Check 7: an enabled partition that keeps requests with no hold limit has a budget base below 16. -/
def budgetFails (c : Schedule) (p : Partition) : Bool :=
  c.parts[p].enabled && decide (1 ≤ c.parts[p].queueLimit.val) && decide (c.parts[p].holdLimit.val = 0) &&
  decide (c.parts[p].budgetBase.val < 16)

/-- The close checks in the order of their codes: the first that fails, with its index or none where the index
is absent, or nothing where all pass (R33). -/
def closeChecks (c : Schedule) : Option (Nat × Option Nat) :=
  if c.phaseCount.val = 0 then some (1, none)
  else match lowestFailing (phaseFails c) with
  | some p => some (2, some p.val)
  | none => match lowestFailing (windowFails c) with
  | some p => some (3, some p.val)
  | none => match lowestFailing (windowEmpty c) with
  | some p => some (4, some p.val)
  | none => if 48 < limitSum c then some (5, none)
  else match lowestFailing (mapFails c) with
  | some r => some (6, some r.val)
  | none => match lowestFailing (budgetFails c) with
  | some p => some (7, some p.val)
  | none => none

/-- The reply CHECK_FAILED with the check code and the index, FFh where it is absent (11.2). -/
def checkFailed (code : Nat) (index : Option Nat) : Reply :=
  { status := .checkFailed, bytes := [countByte code, codeOr countByte index] }

/-- CLOSE_BANK (R32). -/
def cmdCloseBank (bank : Byte) (s : State) : State × Reply :=
  match bank? bank with
  | none => refuse .badArgument s
  | some b =>
    match (s.banks.get b).state with
    | .active => refuse .bankActive s
    | .ready => refuse .alreadyReady s
    | .editing =>
      match closeChecks (s.banks.get b).contents with
      | some (code, index) => (s, checkFailed code index)
      | none => ({ s with banks := s.banks.setState b .ready }, Reply.done)

/-! ## Switching (R37, R38) -/

/-- The target becomes ACTIVE and the sequencer starts, in one execution (R25, R37). -/
def startOn (b : BankId) (s : State) : State :=
  startSequencer { s with banks := s.banks.setState b .active }

/-- REQUEST_SWITCH: the first case of R37's order that applies. -/
def cmdRequestSwitch (target : Byte) (s : State) : State × Reply :=
  match bank? target with
  | none => refuse .badArgument s
  | some b =>
    if s.settings.alternation then refuse .alternating s
    else if (s.banks.get b).state = .active then refuse .alreadyActive s
    else if s.banks.pendingSwitch.isSome then refuse .switchPending s
    else
      match s.seq.state with
      | .stopped => if (s.banks.get b).state = .ready then (startOn b s, Reply.done) else refuse .bankNotReady s
      | .running | .gap => ({ s with banks := { s.banks with pendingSwitch := some b } }, replyOf .accepted)

/-- CANCEL_SWITCH (R38). -/
def cmdCancelSwitch (s : State) : State × Reply :=
  if s.banks.pendingSwitch.isSome then ({ s with banks := { s.banks with pendingSwitch := none } }, Reply.done)
  else refuse .nothingPending s

end Sys2Proof.Machine
end

