-- ==== Sys2Proof/Machine/Control.lean ====
section
/-! DEFINITION. The commands of the Configuration Link on settings, mode, sequencer, incidents, statistics and transactions, and the regulator reset (Chapters 1, 3, 4, 8, 9, 10). -/

namespace Sys2Proof.Machine

/-- NOP (R156). -/
def cmdNop (s : State) : State × Reply := (s, Reply.done)

/-- READ_STATUS (R157). -/
def cmdReadStatus (s : State) : State × Reply := (s, replyData (statusBytes s))

/-! ## Settings (R158, R159) -/

/-- READ_SETTINGS (R158). -/
def cmdReadSettings (s : State) : State × Reply := (s, replyData (settingsBytes s.settings))

/-- The state conditions that refuse a WRITE_SETTINGS with BAD_STATE (R20, R39, R158). -/
def settingsRefused (t : Settings) (s : State) : Bool :=
  (decide (s.seq.state ≠ .stopped) &&
    (decide (t.prescale ≠ s.settings.prescale) || decide (t.syncMode ≠ s.settings.syncMode))) ||
  (!s.settings.alternation && t.alternation && s.banks.pendingSwitch.isSome)

/-- The frames-in-bank count starts again: alternation turned on, or k changed while it is on and stays on (R39,
R159). -/
def alternationRestarts (t : Settings) (s : State) : Bool :=
  t.alternation && (!s.settings.alternation || decide (t.exponent ≠ s.settings.exponent))

/-- The eight settings are stored, with the effects of R159. -/
def storeSettings (t : Settings) (s : State) : State :=
  { s with
    settings := t
    divider := if t.prescale = s.settings.prescale then s.divider else 0
    banks := { s.banks with
      framesInBank := if alternationRestarts t s then 0 else s.banks.framesInBank } }

/-- WRITE_SETTINGS (R158). -/
def cmdWriteSettings (prescale syncMode : Byte) (guard : Half)
    (deadline alternation exponent threshold enable : Byte) (s : State) : State × Reply :=
  match settings? prescale syncMode guard deadline alternation exponent threshold enable with
  | none => refuse .badArgument s
  | some t => if settingsRefused t s then refuse .badState s else (storeSettings t s, Reply.done)

/-! ## Mode and sequencer (R21, R65, R66) -/

/-- SET_MODE (R65, R66). -/
def cmdSetMode (target : Byte) (s : State) : State × Reply :=
  match targetMode? target with
  | none => refuse .badArgument s
  | some m =>
    match s.seq.state with
    | .stopped => if m = .straight then (s, Reply.done) else refuse .modeRefused s
    | .running | .gap => ({ s with mode := { s.mode with requested := some m } }, replyOf .accepted)

/-- The sequencer stopped: frame number and cause kept (R4, R21). -/
def Sequencer.stop (q : Sequencer) : Sequencer :=
  { q with state := .stopped, phase := none, ticksLeft := 0, gapElapsed := 0, guardInForce := 0
           firstPending := false }

/-- An ACTIVE bank made READY (R40). -/
def Bank.standDown (b : Bank) : Bank :=
  { b with state := match b.state with
      | .active => .ready
      | .ready => .ready
      | .editing => .editing }

/-- Bank Control at a stop or a regulator reset (R40). -/
def BankControl.stop (b : BankControl) : BankControl :=
  { bank0 := b.bank0.standDown, bank1 := b.bank1.standDown, pendingSwitch := none, framesInBank := 0 }

/-- The stop of the schedule: sequencer, banks and credit figures (R21, R40, R58). -/
def stopSchedule (s : State) : State :=
  { s with seq := s.seq.stop, banks := s.banks.stop, credit := mapAll Credit.stop s.credit }

/-- STOP_SCHEDULE (R21). -/
def cmdStopSchedule (s : State) : State × Reply :=
  if s.mode.inForce = .straight ∧ s.mode.requested = none then
    match s.seq.state with
    | .stopped => (s, Reply.done)
    | .running | .gap => (stopSchedule s, Reply.done)
  else refuse .badState s

/-! ## Incidents (R144) -/

/-- TAKE_INCIDENT (R144). -/
def cmdTakeIncident (s : State) : State × Reply :=
  match s.incidents.queue with
  | [] =>
    ({ s with incidents := { s.incidents with lost := 0 } },
     { status := .queueEmpty, bytes := [countByte s.incidents.lost] })
  | r :: rest =>
    ({ s with incidents := { s.incidents with queue := rest, lost := 0 } },
     replyData (incidentBytes r ++ [countByte s.incidents.lost]))

/-! ## Statistics (R57) -/

/-- READ_STATISTICS. -/
def cmdReadStatistics (partition : Byte) (s : State) : State × Reply :=
  match fin? 8 partition with
  | none => refuse .badArgument s
  | some p => (s, replyData (statisticsBytes s.stats[p] s.credit[p]))

/-- CLEAR_STATISTICS. -/
def cmdClearStatistics (s : State) : State × Reply :=
  ({ s with stats := Vector.replicate 8 Stats.zero }, Reply.done)

/-! ## Transactions (R131, R135) -/

/-- READ_TRANSACTIONS (R135). -/
def cmdReadTransactions (first : Byte) (s : State) : State × Reply :=
  match fin? 32 first with
  | none => refuse .badArgument s
  | some f => (s, replyData (listingBytes s f))

/-- An EXPIRED entry becomes FREE (R131). -/
def OttEntry.flush : OttEntry → OttEntry
  | .expired _ => .free
  | .opened t n => .opened t n
  | .free => .free

/-- FLUSH_QUARANTINE: the reply gives the number of entries freed (R131). -/
def cmdFlushQuarantine (s : State) : State × Reply :=
  ({ s with ott := mapAll OttEntry.flush s.ott }, replyData [countByte (expiredCount s)])

/-! ## Regulator reset (R160) -/

/-- The ABORTED responses of the held entries, P0's queue first, head to tail (R105). -/
def heldAborts (s : State) : List UpResponse :=
  s.hold.toList.flatten.map fun e => UpResponse.bare e.request.requester e.request.tag .aborted

/-- The regulator reset, the table of R160. FRAME_OUT is low after it (R14). -/
def regulatorReset (s : State) : State :=
  { s with
    frameOutLeft := 0
    seq := s.seq.stop
    banks := s.banks.stop
    credit := Vector.replicate 8 Credit.zero
    stats := Vector.replicate 8 Stats.zero
    mode := ModeControl.reset
    returnQueue := s.returnQueue ++ heldAborts s
    hold := Vector.replicate 8 []
    pointer := 7
    incidents := IncidentUnit.reset }

/-- RESET_REGULATOR (R160). -/
def cmdResetRegulator (s : State) : State × Reply := (regulatorReset s, Reply.done)

end Sys2Proof.Machine
end

