-- ==== Sys2Proof/Machine/Link.lean ====
section
/-! DEFINITION. The transactions and executions of the Configuration Link (Chapter 10): CS_N_ASSERTION, CS_N_DEASSERTION, the twenty-two link commands, END_OF_EXECUTION. -/

namespace Sys2Proof.Machine

/-- What a command does at its execution, and its reply (R154, R156). -/
def perform (c : LinkCommand) (s : State) : State × Reply :=
  match c with
  | .nop => cmdNop s
  | .readStatus => cmdReadStatus s
  | .readSettings => cmdReadSettings s
  | .writeSettings p m g d a k t e => cmdWriteSettings p m g d a k t e s
  | .readPhases b => cmdReadPhases b s
  | .writePhases b n ls => cmdWritePhases b n ls s
  | .readPartition b p => cmdReadPartition b p s
  | .writePartition b p e w base f q h => cmdWritePartition b p e w base f q h s
  | .readMap b f n => cmdReadMap b f n s
  | .writeMap b f n es => cmdWriteMap b f n es s
  | .copyBank src dst => cmdCopyBank src dst s
  | .closeBank b => cmdCloseBank b s
  | .requestSwitch b => cmdRequestSwitch b s
  | .cancelSwitch => cmdCancelSwitch s
  | .setMode m => cmdSetMode m s
  | .stopSchedule => cmdStopSchedule s
  | .takeIncident => cmdTakeIncident s
  | .readStatistics p => cmdReadStatistics p s
  | .clearStatistics => cmdClearStatistics s
  | .readTransactions f => cmdReadTransactions f s
  | .flushQuarantine => cmdFlushQuarantine s
  | .resetRegulator => cmdResetRegulator s

/-- The command is carried out; its reply waits for the end of the execution (R154). -/
def carryOut (c : LinkCommand) (s : State) : State :=
  let r := perform c s
  { r.1 with link := { r.1.link with state := .executing (.replying r.2) } }

/-- The execution is completed whole: the reply enters the Reply Register and the link leaves EXECUTING for IDLE
(R154). -/
def finishExecution (s : State) : State :=
  match s.link.state with
  | .executing (.command c) =>
    let r := perform c s
    { r.1 with link := { r.1.link with state := .idle, reply := r.2 } }
  | .executing (.replying r) => { s with link := { s.link with state := .idle, reply := r } }
  | .idle => s
  | .receiving _ => s

/-- The execution of a command row (log 9): of the command received when the link is EXECUTING it, and otherwise
of a command whose sound frame is not spelled out, an execution still running being completed first. No command
is carried out while CS_N or RST_N is asserted (R149, R154). -/
def runCommand (c : LinkCommand) (s : State) : State :=
  if s.pins.rst || s.pins.cs then s
  else if s.link.state = .executing (.command c) then carryOut c s
  else carryOut c (finishExecution s)

/-! ## Transactions (R150 to R154) -/

/-- The assertion of CS_N: the receive frame buffer is emptied and a transaction begins; begun while the link is
EXECUTING, it is early and the execution is completed whole (R150, R154; log 15). While RST_N is asserted the
level alone changes (R149, R165). -/
def csAssert (s : State) : State :=
  if s.pins.cs then s
  else if s.pins.rst then { s with pins := { s.pins with cs := true } }
  else
    let early := match s.link.state with
      | .executing _ => true
      | .idle | .receiving _ => false
    let s' := finishExecution s
    { s' with
      pins := { s'.pins with cs := true }
      link := { s'.link with state := .receiving early, buffer := [], bits := [] } }

/-- CS_N_ASSERTION (R150). -/
def execCsNAssertion (s : State) : Host.Outcome State Fault Refusal := event csAssert s

/-- The link with the bits of the transaction in its receive frame buffer (R149, R151). -/
def Link.receive (l : Link) (mosi : List Bool) : Link :=
  { l with buffer := (groupBits mosi).1.take Config.frameBufferBytes, bits := (groupBits mosi).2 }

/-- A frame that fails a check: the Reply Register alone changes, and the link returns to IDLE (R151 to R153). DESIGN
CHOICE (log 24): within the deassertion of CS_N, so no time is spent EXECUTING a failed check. -/
def Link.fail (l : Link) (st : ReplyStatus) : Link := { l with state := .idle, reply := replyOf st }

/-- The end of a transaction (R150 to R154): without a rising edge of SCLK nothing is carried out; an early
transaction fails the framing check; a frame is checked, and a sound one is to be carried out. DESIGN CHOICE
(log 24): a CS_N_ASSERTION right after a frame that failed a check finds the link IDLE and is not early. -/
def Link.endTransaction (l : Link) (early : Bool) (mosi : List Bool) : Link :=
  if mosi = [] then { l with state := .idle }
  else if early then (l.receive mosi).fail .framingError
  else
    match checkFrame (groupBits mosi).1 (groupBits mosi).2 with
    | .error st => (l.receive mosi).fail st
    | .sound c => { l.receive mosi with state := .executing (.command c) }

/-- The deassertion of CS_N. In IDLE (CS_N was low at the end of pin reset) it carries out nothing (R165). -/
def csDeassert (mosi : List Bool) (s : State) : State :=
  if s.pins.cs then
    { s with
      pins := { s.pins with cs := false }
      link := match s.link.state with
        | .receiving early => s.link.endTransaction early mosi
        | .idle | .executing _ => s.link }
  else s

/-- CS_N_DEASSERTION (R151). -/
def execCsNDeassertion (mosi : List Bool) (s : State) : Host.Outcome State Fault Refusal := event (csDeassert mosi) s

/-- END_OF_EXECUTION (R154). -/
def execEndOfExecution (s : State) : Host.Outcome State Fault Refusal := event finishExecution s

/-! ## The link commands (R156) -/

/-- NOP (R156). -/
def execNop (s : State) : Host.Outcome State Fault Refusal := event (runCommand .nop) s

/-- READ_STATUS (R157). -/
def execReadStatus (s : State) : Host.Outcome State Fault Refusal := event (runCommand .readStatus) s

/-- READ_SETTINGS (R158). -/
def execReadSettings (s : State) : Host.Outcome State Fault Refusal := event (runCommand .readSettings) s

/-- WRITE_SETTINGS (R158, R159). -/
def execWriteSettings (p m : Byte) (g : Half) (d a k t e : Byte) (s : State) : Host.Outcome State Fault Refusal :=
  event (runCommand (.writeSettings p m g d a k t e)) s

/-- READ_PHASES (R30). -/
def execReadPhases (b : Byte) (s : State) : Host.Outcome State Fault Refusal := event (runCommand (.readPhases b)) s

/-- WRITE_PHASES (R26, R27). -/
def execWritePhases (b n : Byte) (ls : Vector Half 8) (s : State) : Host.Outcome State Fault Refusal :=
  event (runCommand (.writePhases b n ls)) s

/-- READ_PARTITION (R30). -/
def execReadPartition (b p : Byte) (s : State) : Host.Outcome State Fault Refusal :=
  event (runCommand (.readPartition b p)) s

/-- WRITE_PARTITION (R26, R28). -/
def execWritePartition (b p e w : Byte) (base : Half) (f q h : Byte) (s : State) :
    Host.Outcome State Fault Refusal := event (runCommand (.writePartition b p e w base f q h)) s

/-- READ_MAP (R30). -/
def execReadMap (b f n : Byte) (s : State) : Host.Outcome State Fault Refusal := event (runCommand (.readMap b f n)) s

/-- WRITE_MAP (R26, R29). -/
def execWriteMap (b f n : Byte) (es : List Byte) (s : State) : Host.Outcome State Fault Refusal :=
  event (runCommand (.writeMap b f n es)) s

/-- COPY_BANK (R31). -/
def execCopyBank (src dst : Byte) (s : State) : Host.Outcome State Fault Refusal :=
  event (runCommand (.copyBank src dst)) s

/-- CLOSE_BANK (R32, R33). -/
def execCloseBank (b : Byte) (s : State) : Host.Outcome State Fault Refusal := event (runCommand (.closeBank b)) s

/-- REQUEST_SWITCH (R37). -/
def execRequestSwitch (b : Byte) (s : State) : Host.Outcome State Fault Refusal :=
  event (runCommand (.requestSwitch b)) s

/-- CANCEL_SWITCH (R38). -/
def execCancelSwitch (s : State) : Host.Outcome State Fault Refusal := event (runCommand .cancelSwitch) s

/-- SET_MODE (R65, R66). -/
def execSetMode (m : Byte) (s : State) : Host.Outcome State Fault Refusal := event (runCommand (.setMode m)) s

/-- STOP_SCHEDULE (R21, R40). -/
def execStopSchedule (s : State) : Host.Outcome State Fault Refusal := event (runCommand .stopSchedule) s

/-- TAKE_INCIDENT (R144). -/
def execTakeIncident (s : State) : Host.Outcome State Fault Refusal := event (runCommand .takeIncident) s

/-- READ_STATISTICS (R57). -/
def execReadStatistics (p : Byte) (s : State) : Host.Outcome State Fault Refusal :=
  event (runCommand (.readStatistics p)) s

/-- CLEAR_STATISTICS (R57). -/
def execClearStatistics (s : State) : Host.Outcome State Fault Refusal := event (runCommand .clearStatistics) s

/-- READ_TRANSACTIONS (R135). -/
def execReadTransactions (f : Byte) (s : State) : Host.Outcome State Fault Refusal :=
  event (runCommand (.readTransactions f)) s

/-- FLUSH_QUARANTINE (R131). -/
def execFlushQuarantine (s : State) : Host.Outcome State Fault Refusal := event (runCommand .flushQuarantine) s

/-- RESET_REGULATOR (R160). -/
def execResetRegulator (s : State) : Host.Outcome State Fault Refusal := event (runCommand .resetRegulator) s

end Sys2Proof.Machine
end

