-- ==== Sys2Proof/Machine/Requests.lean ====
section
/-! DEFINITION. The commands of the requester side (Chapters 5, 6, 7): REQUEST_ARRIVAL, TAKING, RELEASE, RESPONSE_DELIVERY. -/

namespace Sys2Proof.Machine

/-! ## Arrival (R73) -/

/-- The interconnect presents a request, one at a time: while one is presented no other can be (R73; log 14). -/
def present (q : Request) (s : State) : State :=
  match s.presented with
  | none => { s with presented := some q }
  | some _ => s

/-- REQUEST_ARRIVAL (R73). -/
def execRequestArrival (q : Request) (s : State) : Host.Outcome State Fault Refusal := event (present q) s

/-! ## Taking (R75 to R81, R92 to R96) -/

/-- A refusal at a taking: REFUSED enters the Return Queue, the incident is recorded, and the partition the
request is classified to, if any, counts it (R77, R92, R56). -/
def refuseTaken (k : IncidentKind) (p : Option Partition) (detail : Half) (q : Taken) (s : State) : State :=
  count Stats.refuse p
    (record (Incident.ofRequest k p q detail) (respond (UpResponse.bare q.requester q.tag .refused) s))

/-- The detail of OVER_BUDGET: remaining credit before the charge, given as -32768 below that (R81). -/
def overBudgetDetail (remaining : Int) : Half := BitVec.ofInt 16 (max (-32768) remaining)

/-- The window judgement of a pass in OBSERVE (R81). -/
def judgeWindow (p : Partition) (q : Taken) (s : State) : State :=
  if windowOpen s p then s
  else record (Incident.ofRequest .outOfWindow (some p) q (BitVec.ofNat 16 q.length)) s

/-- The budget judgement of a pass in OBSERVE, before the charge (R81, R53). -/
def judgeBudget (p : Partition) (q : Taken) (s : State) : State :=
  if s.credit[p].remaining < (q.length : Int) then
    record (Incident.ofRequest .overBudget (some p) q (overBudgetDetail s.credit[p].remaining)) s
  else s

/-- A pass on the direct path in OBSERVE (R80, R81). -/
def passObserved (q : Taken) (s : State) : State :=
  match classify s q.requester with
  | none => openEntry q none (record (Incident.ofRequest .unmapped none q 0) s)
  | some p => openEntry q (some p) (charge p q.length (judgeBudget p q (judgeWindow p q s)))

/-- A request is admitted at the tail of its partition's queue (R96). -/
def enqueue (p : Partition) (q : Taken) (s : State) : State :=
  { s with hold := setAt s.hold p (s.hold[p] ++ [{ request := q, partition := p, admitted := s.seq.frame }]) }

/-- Admission in ENFORCE: the first cause of R92 that applies decides. -/
def admission (q : Taken) (s : State) : State :=
  match classify s q.requester with
  | none => refuseTaken .unmapped none 0 q s
  | some p =>
    if s.banks.inForce.parts[p].queueLimit.val ≤ s.hold[p].length then
      refuseTaken .queueFull (some p) (BitVec.ofNat 16 s.hold[p].length) q s
    else if storeCount s = Config.holdCapacity then refuseTaken .storeFull (some p) 48 q s
    else enqueue p q s

/-- The partition a duplicate's record carries: the one classification found, in OBSERVE and ENFORCE (R77). -/
def duplicatePartition (q : Taken) (s : State) : Option Partition :=
  match s.mode.inForce with
  | .straight | .draining => none
  | .observe | .enforce => classify s q.requester

/-- The handling of a taken request within its taking (R76). In DRAINING none is taken (R64). -/
def handleTaken (q : Taken) (s : State) : State :=
  if liveTag s q.requester q.tag then refuseTaken .duplicateTag (duplicatePartition q s) 0 q s
  else
    match s.mode.inForce with
    | .straight => openEntry q none s
    | .observe => passObserved q s
    | .enforce => admission q s
    | .draining => s

/-- The Requester Port takes the presented request when the conditions of R75 hold; until then it waits. -/
def takePresented (s : State) : State :=
  match s.presented with
  | none => s
  | some q => if canTake s then handleTaken (takenOf q) { s with presented := none } else s

/-- TAKING (R75 to R81, R92 to R96). -/
def execTaking (s : State) : Host.Outcome State Fault Refusal := event takePresented s

/-! ## Release (R110 to R114) -/

/-- The release of a partition's head entry (R103, R114). -/
def releaseFrom (p : Partition) (s : State) : State :=
  match s.hold[p] with
  | [] => s
  | e :: _ =>
    completeDrain
      (openEntry e.request (some e.partition)
        (charge e.partition e.request.length (popHead p { s with pointer := p })))

/-- The Release Arbiter releases when the conditions of R110 hold; until then it waits. -/
def releaseHead (s : State) : State :=
  if canRelease s then
    match chosen s with
    | some p => releaseFrom p s
    | none => s
  else s

/-- RELEASE (R110 to R114). -/
def execRelease (s : State) : Host.Outcome State Fault Refusal := event releaseHead s

/-! ## Delivery (R85) -/

/-- The interconnect accepts the head of the Return Queue (R85). -/
def deliverHead (s : State) : State := { s with returnQueue := s.returnQueue.tail }

/-- RESPONSE_DELIVERY (R85). -/
def execResponseDelivery (s : State) : Host.Outcome State Fault Refusal := event deliverHead s

end Sys2Proof.Machine
end

