-- ==== Sys2Proof/Machine/MemorySide.lean ====
section
/-! DEFINITION. The commands of the memory side (Chapters 7 and 8): ACCEPTANCE, RESPONSE_ARRIVAL, DEADLINE_EXPIRY, DRST_N_ASSERTION, DRST_N_DEASSERTION. -/

namespace Sys2Proof.Machine

/-! ## Acceptance (R108) -/

/-- An entry's in-Offer-Slot field becomes no; a FREE entry has none (R108). -/
def OttEntry.leaveSlot : OttEntry → OttEntry
  | .opened t n => .opened { t with inSlot := false } n
  | .expired t => .expired { t with inSlot := false }
  | .free => .free

/-- The memory controller accepts the offered request; with the slot empty there is nothing to accept (R108,
R117). -/
def accept (s : State) : State :=
  match s.offer with
  | none => s
  | some o => { s with offer := none, ott := setAt s.ott o.mtag (s.ott[o.mtag]).leaveSlot }

/-- ACCEPTANCE (R108). -/
def execAcceptance (s : State) : Host.Outcome State Fault Refusal := event accept s

/-! ## Response arrival (R125 to R128) -/

/-- The status the requester receives for a forwarded response, and whether it is malformed (the table of
R126). -/
def forwardStatus (t : Transaction) (r : Response) : UpStatus × Bool :=
  match r.status, t.kind with
  | .error, _ => (.memError, false)
  | .ok, .read => if r.beatCount.val = t.length then (.ok, false) else (.memError, true)
  | .ok, .write => if r.beatCount.val = 0 then (.ok, false) else (.memError, true)

/-- The data forwarded: all the beats of an OK READ, else none (R126). -/
def forwardData (t : Transaction) (r : Response) : List BeatData :=
  match t.kind, (forwardStatus t r).1 with
  | .read, .ok => beatsOf r
  | _, _ => []

/-- A response that names an OPEN entry is forwarded (R126). -/
def forward (t : Transaction) (r : Response) (s : State) : State :=
  let s' := respond { requester := t.requester, tag := t.tag, status := (forwardStatus t r).1
                      data := forwardData t r } { s with ott := setAt s.ott r.mtag .free }
  if (forwardStatus t r).2 then
    record { kind := .malformedResponse, partition := none, requester := some t.requester, tag := some t.tag
             addr := some t.addr, detail := BitVec.ofNat 16 r.beatCount.val } s'
  else s'

/-- A response that names an EXPIRED entry is late (R127). -/
def lateResponse (t : Transaction) (i : OttIndex) (s : State) : State :=
  record { kind := .lateResponse, partition := none, requester := some t.requester, tag := some t.tag
           addr := none, detail := BitVec.ofNat 16 i.val } { s with ott := setAt s.ott i .free }

/-- A stray response (R128). -/
def strayResponse (i : OttIndex) (s : State) : State :=
  record (Incident.plain .strayResponse (BitVec.ofNat 16 i.val)) s

/-- The offered request carries this Memory Port tag (case 2 of R125). -/
def offered (s : State) (i : OttIndex) : Bool :=
  match s.offer with
  | some o => o.mtag == i
  | none => false

/-- The judgement of a response taken at the Memory Port, in the order of R125. -/
def takeResponse (r : Response) (s : State) : State :=
  if s.pins.drst then s
  else if offered s r.mtag then strayResponse r.mtag s
  else
    match s.ott[r.mtag] with
    | .free => strayResponse r.mtag s
    | .expired t => lateResponse t r.mtag s
    | .opened t _ => forward t r s

/-- A response arrival: taken at once (R74); while RST_N is asserted it is not taken and stays presented, one at
a time (R87, R165; log 13). -/
def arriveResponse (r : Response) (s : State) : State :=
  if s.pins.rst then
    { s with memPresented := match s.memPresented with
        | some first => some first
        | none => some r }
  else takeResponse r s

/-- RESPONSE_ARRIVAL (R125). -/
def execResponseArrival (r : Response) (s : State) : Host.Outcome State Fault Refusal := event (arriveResponse r) s

/-! ## Deadline expiry (R124) -/

/-- DEADLINE_EXPIRY: the OTT's reaction to the tick that brought counts to 0, in ascending index order (R124); no
event where no count is 0 (log 7). -/
def execDeadlineExpiry (s : State) : Host.Outcome State Fault Refusal := .next (ottReaction s)

/-! ## DRST_N (R116, R117, R132) -/

/-- The ABORTED response of an OPEN entry (R132). -/
def OttEntry.abort : OttEntry → Option UpResponse
  | .opened t _ => some (UpResponse.bare t.requester t.tag .aborted)
  | .free | .expired _ => none

/-- The memory-side reset notice: the Offer Slot empties, every OPEN entry is answered ABORTED in ascending index
order, every entry becomes FREE, and DOWNSTREAM_RESET is recorded (R116, R132). -/
def abortMemorySide (s : State) : State :=
  record (Incident.plain .downstreamReset (BitVec.ofNat 16 (openCount s)))
    { s with
      offer := none
      returnQueue := s.returnQueue ++ s.ott.toList.filterMap OttEntry.abort
      ott := Vector.replicate 32 .free }

/-- The assertion of DRST_N. An asserted line is not asserted again (log 7); while RST_N is asserted the level
alone changes (R165). -/
def drstAssert (s : State) : State :=
  if s.pins.drst then s
  else
    let s' := { s with pins := { s.pins with drst := true } }
    if s.pins.rst then s' else abortMemorySide s'

/-- DRST_N_ASSERTION (R116, R132). -/
def execDrstNAssertion (s : State) : Host.Outcome State Fault Refusal := event drstAssert s

/-- The deassertion of DRST_N changes the level alone; the port and the arbiter judge their conditions with it
(R117, R132). -/
def drstDeassert (s : State) : State := { s with pins := { s.pins with drst := false } }

/-- DRST_N_DEASSERTION (R117). -/
def execDrstNDeassertion (s : State) : Host.Outcome State Fault Refusal := event drstDeassert s

end Sys2Proof.Machine
end

