-- ==== Sys2Proof/Machine/Resets.lean ====
section
/-! DEFINITION. Pin reset and its end: PIN_RESET, RST_N_DEASSERTION (R4, R87, R165). -/

namespace Sys2Proof.Machine

/-- The part under pin reset: every block at its stated initial value (R4, R24, R58, R60, R87, R91, R109, R134,
R137, R149). What is outside the part stands: the levels of DRST_N and CS_N and what is presented at the two
ports (R87, R165; log 22). -/
def pinReset (s : State) : State :=
  { State.reset with
    pins := { s.pins with rst := true }
    presented := s.presented
    memPresented := s.memPresented
    freeIndex := s.freeIndex
    pending := s.pending }

/-- PIN_RESET (R4). -/
def execPinReset (s : State) : Host.Outcome State Fault Refusal := .next (pinReset s)

/-- The end of pin reset: levels are taken as they stand and are no events, the divider starts from zero (R2),
and a response still presented at the Memory Port is taken as an arrival (R165). -/
def endPinReset (s : State) : State :=
  if s.pins.rst then
    let s' := { s with pins := { s.pins with rst := false }, divider := 0, memPresented := none }
    match s.memPresented with
    | some r => takeResponse r s'
    | none => s'
  else s

/-- RST_N_DEASSERTION (R165). -/
def execRstNDeassertion (s : State) : Host.Outcome State Fault Refusal := event endPinReset s

end Sys2Proof.Machine
end

