-- ==== Sys2Proof/Machine/Time.lean ====
section
/-! DEFINITION. The commands of the Time Base and the Frame Sequencer (Chapter 1): TICK, PHASE_EXPIRY, GUARD_EXPIRY, SYNC_IN_ARRIVAL, FRAME_OUT_PULSE_END. -/

namespace Sys2Proof.Machine

/-- TICK (R1): the expiries of the tick before are handled, then the tick is counted. The expiries it brings are
handled by PHASE_EXPIRY, GUARD_EXPIRY and DEADLINE_EXPIRY, or before the next other command (log 3). -/
def execTick (s : State) : Host.Outcome State Fault Refusal := event countTick s

/-- PHASE_EXPIRY (R7 to R9), at the tick that brought ticks remaining to 0; no event otherwise (log 7). -/
def execPhaseExpiry (s : State) : Host.Outcome State Fault Refusal :=
  .next (if phaseDue s then expirePhase s else s)

/-- GUARD_EXPIRY (R11), at the tick that reached the guard in force; no event otherwise (log 7). -/
def execGuardExpiry (s : State) : Host.Outcome State Fault Refusal :=
  .next (if guardDue s then expireGuard s else s)

/-- The frame in progress is cut, and a frame starts with cause SYNC (R16). -/
def cutFrame (s : State) : State :=
  frameStart .sync (record (Incident.plain .frameCut (BitVec.ofNat 16 s.seq.ticksLeft)) s)

/-- A rising edge on SYNC_IN: ignored in FREE and while STOPPED (R15), a cut while RUNNING (R16), the end of the
gap in GAP (R17). -/
def syncArrival (s : State) : State :=
  match s.settings.syncMode with
  | .free => s
  | .follow =>
    match s.seq.state with
    | .stopped => s
    | .running => cutFrame s
    | .gap => frameStart .sync s

/-- SYNC_IN_ARRIVAL (R15 to R17). -/
def execSyncInArrival (s : State) : Host.Outcome State Fault Refusal := event syncArrival s

/-- FRAME_OUT returns low (R14). DESIGN CHOICE (log 23): the command is the end of the pulse whatever count is left,
since TICK and the other commands let no REFCLK period pass. -/
def endPulse (s : State) : State := { s with frameOutLeft := 0 }

/-- FRAME_OUT_PULSE_END (R14). -/
def execFrameOutPulseEnd (s : State) : Host.Outcome State Fault Refusal := event endPulse s

end Sys2Proof.Machine
end

