-- ==== Sys2Proof/Machine/Dispatch.lean ====
section
/-! DEFINITION. One arm for each command of spec/opcode_table.json. -/

namespace Sys2Proof.Machine

def exec (i : Instr) (s : State) : Host.Outcome State Fault Refusal :=
  match i with
  | .pinReset => Sys2Proof.Machine.execPinReset s
  | .rstNDeassertion => Sys2Proof.Machine.execRstNDeassertion s
  | .tick => Sys2Proof.Machine.execTick s
  | .phaseExpiry => Sys2Proof.Machine.execPhaseExpiry s
  | .guardExpiry => Sys2Proof.Machine.execGuardExpiry s
  | .syncInArrival => Sys2Proof.Machine.execSyncInArrival s
  | .frameOutPulseEnd => Sys2Proof.Machine.execFrameOutPulseEnd s
  | .requestArrival q => Sys2Proof.Machine.execRequestArrival q s
  | .taking => Sys2Proof.Machine.execTaking s
  | .release => Sys2Proof.Machine.execRelease s
  | .acceptance => Sys2Proof.Machine.execAcceptance s
  | .responseArrival r => Sys2Proof.Machine.execResponseArrival r s
  | .deadlineExpiry => Sys2Proof.Machine.execDeadlineExpiry s
  | .responseDelivery => Sys2Proof.Machine.execResponseDelivery s
  | .drstNAssertion => Sys2Proof.Machine.execDrstNAssertion s
  | .drstNDeassertion => Sys2Proof.Machine.execDrstNDeassertion s
  | .csNAssertion => Sys2Proof.Machine.execCsNAssertion s
  | .csNDeassertion mosi => Sys2Proof.Machine.execCsNDeassertion mosi s
  | .nop => Sys2Proof.Machine.execNop s
  | .readStatus => Sys2Proof.Machine.execReadStatus s
  | .readSettings => Sys2Proof.Machine.execReadSettings s
  | .writeSettings p m g d a k t e => Sys2Proof.Machine.execWriteSettings p m g d a k t e s
  | .readPhases b => Sys2Proof.Machine.execReadPhases b s
  | .writePhases b n ls => Sys2Proof.Machine.execWritePhases b n ls s
  | .readPartition b p => Sys2Proof.Machine.execReadPartition b p s
  | .writePartition b p e w base f q h => Sys2Proof.Machine.execWritePartition b p e w base f q h s
  | .readMap b f n => Sys2Proof.Machine.execReadMap b f n s
  | .writeMap b f n es => Sys2Proof.Machine.execWriteMap b f n es s
  | .copyBank src dst => Sys2Proof.Machine.execCopyBank src dst s
  | .closeBank b => Sys2Proof.Machine.execCloseBank b s
  | .requestSwitch b => Sys2Proof.Machine.execRequestSwitch b s
  | .cancelSwitch => Sys2Proof.Machine.execCancelSwitch s
  | .setMode m => Sys2Proof.Machine.execSetMode m s
  | .stopSchedule => Sys2Proof.Machine.execStopSchedule s
  | .takeIncident => Sys2Proof.Machine.execTakeIncident s
  | .readStatistics p => Sys2Proof.Machine.execReadStatistics p s
  | .clearStatistics => Sys2Proof.Machine.execClearStatistics s
  | .readTransactions f => Sys2Proof.Machine.execReadTransactions f s
  | .flushQuarantine => Sys2Proof.Machine.execFlushQuarantine s
  | .resetRegulator => Sys2Proof.Machine.execResetRegulator s
  | .endOfExecution => Sys2Proof.Machine.execEndOfExecution s

end Sys2Proof.Machine
end

