-- ==== Sys2Proof/WellFormed.lean ====
section
/-! DEFINITION. Which commands a sender can present: the operands' types give every bound of the ports' field groups (11.7), so what is left to check is the shape of a WRITE_MAP, whose entries travel in a frame of at most 200 argument bytes (R151, R153). -/

namespace Sys2Proof

/-- The entries of a WRITE_MAP fit the frame that carries them: 3 + count argument bytes, at most 200 (R151). -/
def mapEntriesFit (entries : List Byte) : Bool := decide (entries.length + 3 ≤ 200)

/-- The entries of a WRITE_MAP are as many as the count the frame carries (R153). -/
def mapEntriesMatch (count : Byte) (entries : List Byte) : Bool := decide (entries.length = count.toNat)

/-- A command of the link that a sound frame can carry. -/
def LinkCommand.wf : LinkCommand → Bool
  | .writeMap _ _ count entries => mapEntriesFit entries && mapEntriesMatch count entries
  | .nop | .readStatus | .readSettings | .writeSettings .. | .readPhases .. | .writePhases .. | .readPartition ..
  | .writePartition .. | .readMap .. | .copyBank .. | .closeBank .. | .requestSwitch .. | .cancelSwitch
  | .setMode .. | .stopSchedule | .takeIncident | .readStatistics .. | .clearStatistics | .readTransactions ..
  | .flushQuarantine | .resetRegulator => true

/-- A command that a sender can present. -/
def Instr.wf : Instr → Bool
  | .writeMap _ _ count entries => mapEntriesFit entries && mapEntriesMatch count entries
  | .pinReset | .rstNDeassertion | .tick | .phaseExpiry | .guardExpiry | .syncInArrival | .frameOutPulseEnd
  | .requestArrival .. | .taking | .release | .acceptance | .responseArrival .. | .deadlineExpiry
  | .responseDelivery | .drstNAssertion | .drstNDeassertion | .csNAssertion | .csNDeassertion .. | .nop
  | .readStatus | .readSettings | .writeSettings .. | .readPhases .. | .writePhases .. | .readPartition ..
  | .writePartition .. | .readMap .. | .copyBank .. | .closeBank .. | .requestSwitch .. | .cancelSwitch
  | .setMode .. | .stopSchedule | .takeIncident | .readStatistics .. | .clearStatistics | .readTransactions ..
  | .flushQuarantine | .resetRegulator | .endOfExecution => true

end Sys2Proof
end

