-- ==== Sys2Proof/Safety.lean ====
section
/-! DEFINITION. The laws of the manual as invariants of the state. Each is decidable; Safety.Inv is all of them together. -/

namespace Sys2Proof.Safety

open Sys2Proof.Machine

/-- Time Base and FRAME_OUT: the divider is within the tick period (R1), the pulse within its width (R14). -/
abbrev TimeLaw (s : State) : Prop := s.divider < tickPeriod s ∧ s.frameOutLeft ≤ Config.frameOutWidth

/-- What the sequencer state says of the other items (R3, R4); the counts are within their ranges (1.2). -/
abbrev SequencerLaw (s : State) : Prop :=
  (s.seq.state = .stopped → s.seq.phase = none ∧ s.seq.ticksLeft = 0 ∧ s.seq.gapElapsed = 0 ∧
    s.seq.guardInForce = 0 ∧ s.seq.firstPending = false) ∧
  (s.seq.state = .running → s.seq.firstPending = false ∧
    s.seq.phase.any (fun p => decide (p.val < s.banks.inForce.phaseCount.val)) = true) ∧
  (s.seq.state = .gap → s.seq.phase = none ∧ s.seq.ticksLeft = 0 ∧ s.settings.syncMode = .follow) ∧
  s.seq.ticksLeft ≤ 65535 ∧ s.seq.gapElapsed ≤ 65535 ∧ s.seq.guardInForce ≤ 65535

/-- At most one bank is ACTIVE, and one is exactly while the sequencer is not STOPPED; a READY or ACTIVE bank
passes the close checks (R25, 2.2). -/
abbrev BankLaw (s : State) : Prop :=
  ((s.banks.bank0.state = .active ∨ s.banks.bank1.state = .active) ↔ s.seq.state ≠ .stopped) ∧
  ¬ (s.banks.bank0.state = .active ∧ s.banks.bank1.state = .active) ∧
  (s.banks.bank0.state ≠ .editing → closeChecks s.banks.bank0.contents = none) ∧
  (s.banks.bank1.state ≠ .editing → closeChecks s.banks.bank1.contents = none)

/-- The pending switch and the frames-in-bank count (R34). -/
abbrev SwitchLaw (s : State) : Prop :=
  (s.banks.pendingSwitch.isSome = true → s.seq.state ≠ .stopped ∧ s.settings.alternation = false) ∧
  (s.banks.pendingSwitch.all (fun b => decide ((s.banks.get b).state ≠ .active)) = true) ∧
  s.banks.framesInBank ≤ 65535 ∧
  (s.seq.state = .stopped ∨ s.seq.firstPending = true → s.banks.framesInBank = 0)

/-- The credit items are within their ranges and their sum holds (R47, R52); all three figures are 0 while the
sequencer is STOPPED (R58). -/
abbrev CreditLaw (s : State) : Prop :=
  ∀ p : Partition,
    s.credit[p].granted ≤ 4096 ∧ -65536 ≤ s.credit[p].remaining ∧ s.credit[p].remaining ≤ 4096 ∧
    s.credit[p].charged ≤ 69632 ∧
    (s.credit[p].charged : Int) + s.credit[p].remaining = (s.credit[p].granted : Int) ∧
    (s.seq.state = .stopped → s.credit[p].granted = 0 ∧ s.credit[p].remaining = 0 ∧ s.credit[p].charged = 0)

/-- The relation of the three items of Mode Control to each other, the sequencer and the hold queues (R59,
R60). -/
abbrev ModeLaw (s : State) : Prop :=
  (s.mode.inForce = .draining ↔ s.mode.drainTarget.isSome = true) ∧
  (s.mode.drainTarget ≠ some .enforce ∧ s.mode.drainTarget ≠ some .draining) ∧
  s.mode.requested ≠ some .draining ∧
  (s.seq.state = .stopped → s.mode.inForce = .straight ∧ s.mode.requested = none) ∧
  (s.mode.inForce = .draining → storeEmpty s = false) ∧
  (s.mode.inForce.passes = true → storeEmpty s = true)

/-- The data of a request the part keeps: exactly `length` beats for a WRITE, none for a READ (R73). -/
abbrev dataFits (k : Kind) (lenLess1 : Fin 16) (data : List Beat) : Prop :=
  data.length = match k with
    | .write => lenLess1.val + 1
    | .read => 0

/-- The Hold Store: 48 entries at most, 32 to a queue, each in the queue of its partition (R89, R90). -/
abbrev HoldLaw (s : State) : Prop :=
  storeCount s ≤ Config.holdCapacity ∧
  ∀ p : Partition, (s.hold[p]).length ≤ 32 ∧
    ∀ e ∈ s.hold[p], e.partition = p ∧ dataFits e.request.kind e.request.lenLess1 e.request.data

/-- The requester and tag of every live transaction, held entries first (R75). -/
def liveKeys (s : State) : List (Requester × Tag) :=
  s.hold.toList.flatten.map (fun e => (e.request.requester, e.request.tag)) ++
  s.ott.toList.filterMap fun x => match x with
    | .opened t _ => some (t.requester, t.tag)
    | .free | .expired _ => none

/-- No two live transactions carry the same requester and tag (R77). -/
abbrev TagLaw (s : State) : Prop := (liveKeys s).Nodup

/-- The Return Queue count plus the live count is at most 96 (R84). -/
abbrev ReturnLaw (s : State) : Prop := s.returnQueue.length + liveCount s ≤ Config.returnBound

/-- The transaction of an entry, none for a FREE one. -/
def entryTransaction : OttEntry → Option Transaction
  | .free => none
  | .opened t _ => some t
  | .expired t => some t

/-- A deadline count is at most 16384 (R120). -/
def deadlineFits : OttEntry → Bool
  | .opened _ n => decide (n ≤ 16384)
  | .free | .expired _ => true

/-- The Offer Slot and the OTT: the entry of the offered request is marked as in the slot and is its own, unless
a flush has freed it, and no other entry is (R74, R107, R131); deadline counts are in range (R120); nothing is
offered and every entry is FREE while DRST_N is asserted (R123, R132). -/
abbrev SlotLaw (s : State) : Prop :=
  (∀ i : OttIndex, (entryTransaction s.ott[i]).all (fun t => t.inSlot == offered s i) = true) ∧
  (∀ i : OttIndex, offered s i = true → (entryTransaction s.ott[i]).all (fun t =>
    s.offer.all fun o => o.requester == t.requester && o.addr == t.addr && o.lenLess1 == t.lenLess1 &&
      decide (o.kind = t.kind)) = true) ∧
  s.offer.all (fun o => decide (dataFits o.kind o.lenLess1 o.data)) = true ∧
  (∀ i : OttIndex, deadlineFits s.ott[i] = true) ∧
  (s.pins.drst = true → s.offer = none ∧ ∀ i : OttIndex, (s.ott[i]).isFree = true)

/-- The Incident Queue: at most sixteen records with consecutive sequence numbers that end below the next one
(R142); repeat counts and the lost count are within their ranges (R137, R138). -/
abbrev IncidentLaw (s : State) : Prop :=
  s.incidents.queue.length ≤ Config.incidentCapacity ∧
  s.incidents.queue.map (fun r => r.seq) =
    (List.range s.incidents.queue.length).map (fun k =>
      s.incidents.nextSeq - BitVec.ofNat 16 (s.incidents.queue.length - k)) ∧
  (∀ r ∈ s.incidents.queue, 1 ≤ r.repeatCount ∧ r.repeatCount ≤ 65535) ∧
  s.incidents.lost ≤ 255 ∧ 1 ≤ s.settings.alertThreshold.val

/-- The link state agrees with CS_N, and what is being executed has passed the checks (R149, R153). -/
def linkStateFits (s : State) : Bool :=
  match s.link.state with
  | .idle => true
  | .receiving _ => s.pins.cs
  | .executing (.command c) => !s.pins.cs && argsInRange c && c.wf
  | .executing (.replying r) => !s.pins.cs && decide (r.bytes.length ≤ 255)

/-- The link: its state agrees with CS_N, the buffer and every reply are within their sizes, and a command being
carried out has passed the checks (R149, R153). -/
abbrev LinkLaw (s : State) : Prop :=
  s.link.reply.bytes.length ≤ 255 ∧ s.link.buffer.length ≤ Config.frameBufferBytes ∧ s.link.bits.length < 8 ∧
  linkStateFits s = true

/-- While RST_N is asserted the part holds its initial values (R4, R87, R149); a memory response stays presented
only then (R87). -/
abbrev ResetLaw (s : State) : Prop :=
  (s.pins.rst = true → pinReset s = s) ∧ (s.memPresented.isSome = true → s.pins.rst = true)

/-- All the laws together. -/
structure Inv (s : State) : Prop where
  time      : TimeLaw s
  sequencer : SequencerLaw s
  bank      : BankLaw s
  switch    : SwitchLaw s
  credit    : CreditLaw s
  mode      : ModeLaw s
  hold      : HoldLaw s
  tags      : TagLaw s
  returns   : ReturnLaw s
  slot      : SlotLaw s
  incidents : IncidentLaw s
  link      : LinkLaw s
  reset     : ResetLaw s

end Sys2Proof.Safety
end

