-- ==== Sys2Proof/Certificates/Slice0/Obligations.lean ====
section
/-! DEFINITION. The statements for the provers. -/

namespace Sys2Proof.Claims

open Sys2Proof.Machine
open Sys2Proof.Safety

/-- RST_N is deasserted and no expiry of an earlier tick waits (log 3). -/
abbrev Calm (s : State) : Prop := quiet s = true ∧ s.pins.rst = false

/-- The link can execute this command row: it is EXECUTING the command just received (R149, R154), or IDLE, where
the row stands for a whole sound transaction (log 9). -/
abbrev LinkFree (c : LinkCommand) (s : State) : Prop :=
  Calm s ∧ s.pins.cs = false ∧ (s.link.state = .idle ∨ s.link.state = .executing (.command c))

/-- A command has been carried out with this reply, which waits for the end of the execution (R154). -/
def withReply (st : ReplyStatus) (bytes : List Byte) (s : State) : State :=
  { s with link := { s.link with state := .executing (.replying { status := st, bytes := bytes }) } }

/-- The index is the lowest FREE one (R121). -/
abbrev LowestFree (s : State) (i : OttIndex) : Prop :=
  s.ott[i] = .free ∧ ∀ j : OttIndex, j < i → s.ott[j] ≠ .free

/-- The conditions under which a presented request is taken (R75, R87). -/
abbrev Takeable (s : State) : Prop :=
  s.pins.rst = false ∧ s.returnQueue.length + (storeCount s + openCount s) < 96 ∧ s.mode.inForce ≠ .draining ∧
  (s.mode.inForce = .straight ∨ s.mode.inForce = .observe →
    s.offer = none ∧ (∃ i : OttIndex, s.ott[i] = .free) ∧ s.pins.drst = false)

/-- The request enters the Offer Slot under an index whose entry is opened for it (R74, R121, R122). -/
def opened (i : OttIndex) (q : Taken) (p : Option Partition) (s : State) : State :=
  { s with
    ott := s.ott.set i.val (.opened { requester := q.requester, tag := q.tag, kind := q.kind, addr := q.addr
                                      lenLess1 := q.lenLess1, partition := p, inSlot := true }
             ((s.settings.deadline.val + 1) * 256)) i.isLt
    offer := some { requester := q.requester, mtag := i, kind := q.kind, addr := q.addr, lenLess1 := q.lenLess1
                    data := q.data } }

/-- One incident recorded under the frame and phase the sequencer holds (R138). -/
def recorded (i : Incident) (s : State) : State :=
  { s with incidents := s.incidents.take i (incidentFrame s) (shownPhase s) }

/-- One response at the tail of the Return Queue (R82). -/
def answered (r : Requester) (t : Tag) (st : UpStatus) (s : State) : State :=
  { s with returnQueue := s.returnQueue ++ [{ requester := r, tag := t, status := st, data := [] }] }

/-- One request of the partition counted as refused (R56). -/
def refusedOne (p : Partition) (s : State) : State :=
  { s with stats := s.stats.set p.val { s.stats[p] with refused := s.stats[p].refused + 1 } p.isLt }

/-- A partition's credit after a charge of `n` beats (R50, R51). -/
def chargedCredit (c : Credit) (n : Nat) : Credit :=
  if -65536 ≤ c.remaining - (n : Int) then
    { c with remaining := c.remaining - (n : Int), charged := c.charged + n }
  else { c with remaining := -65536, charged := c.granted + 65536 }

/-- The charge of `n` beats to a partition, with its counters (R50, R51, R56). -/
def chargedTo (p : Partition) (n : Nat) (s : State) : State :=
  { s with
    credit := s.credit.set p.val (chargedCredit s.credit[p] n) p.isLt
    stats := s.stats.set p.val { s.stats[p] with
      released := s.stats[p].released + 1, beatsCharged := s.stats[p].beatsCharged + BitVec.ofNat 32 n } p.isLt }

/-- The refill of one partition's credit under its record in the bank named (R48, R49). -/
abbrev Refilled (c c' : Credit) (r : PartRecord) : Prop :=
  (r.enabled = true →
    c'.granted = r.budgetBase.val + (if 8 ≤ c.fraction.val + r.budgetFraction.val then 1 else 0) ∧
    c'.remaining = (c'.granted : Int) ∧ c'.charged = 0 ∧
    c'.fraction.val = (c.fraction.val + r.budgetFraction.val) -
      (if 8 ≤ c.fraction.val + r.budgetFraction.val then 8 else 0)) ∧
  (r.enabled = false → c'.granted = 0 ∧ c'.remaining = 0 ∧ c'.charged = 0 ∧ c'.fraction = c.fraction)

/-- A frame has started with a cause: the sequencer stands in phase A of the next frame with the length of the
bank in force, FRAME_OUT pulses for 64 REFCLK periods, every partition is refilled, and what no reaction to a
frame start reaches is unchanged (R12 to R14, R48, R49). The state is the one in which Bank Control, Mode Control
and the hold queues, each once and in one of their orders, have reacted to that frame (R13, R140; log 4). -/
abbrev FrameBegun (c : Cause) (s t : State) : Prop :=
  t.seq = { s.seq with
    state := .running, frame := s.seq.frame + 1, phase := some 0, cause := some c, firstPending := false
    ticksLeft := (t.banks.inForce.lengths[(0 : Phase)]).toNat } ∧
  t.frameOutLeft = 64 ∧
  (∀ p : Partition, Refilled s.credit[p] t.credit[p] t.banks.inForce.parts[p]) ∧
  t = { s with
    seq := t.seq, frameOutLeft := t.frameOutLeft, banks := t.banks, credit := t.credit, stats := t.stats
    mode := t.mode, returnQueue := t.returnQueue, hold := t.hold, incidents := t.incidents
    freeIndex := t.freeIndex } ∧
  ∃ o : ReactionOrder,
    t = inOrder o (bankReaction s.seq.firstPending (bankDecision s).1) modeReaction holdReaction { s with
      banks := (bankDecision s).2, seq := t.seq, frameOutLeft := 64, credit := t.credit, freeIndex := t.freeIndex }

/-- An incident that carries a detail alone (R139). -/
def plainIncident (k : IncidentKind) (detail : Half) : Incident :=
  { kind := k, partition := none, requester := none, tag := none, addr := none, detail := detail }

/-- The record of an incident that carries a detail alone, as the first of an empty Incident Queue (R138, R142). -/
def plainRecord (k : IncidentKind) (detail : Half) (s : State) : IncidentRecord :=
  { seq := s.incidents.nextSeq, kind := k, frame := (incidentFrame s).map fun f => f.extractLsb' 0 16
    phase := shownPhase s, partition := none, requester := none, tag := none, addr := none, repeatCount := 1
    detail := detail }

/-- The entries of a queue that leave at a frame start whose bank and frame the state holds (R99 to R101). -/
def expiring (s : State) (p : Partition) : List HeldEntry :=
  if s.banks.inForce.parts[p].enabled = false then s.hold[p]
  else if s.banks.inForce.parts[p].holdLimit.val = 0 then []
  else s.hold[p].takeWhile fun e =>
    decide (s.banks.inForce.parts[p].holdLimit.val ≤ (s.seq.frame - e.admitted).toNat)

/-- The entries that leave at a frame start with their partitions, in their order (R99). -/
def departures (s : State) : List (Partition × HeldEntry) :=
  (List.finRange 8).flatMap fun p => (expiring s p).map fun e => (p, e)

/-- The incident of a departure by hold expiry: detail 1 where the partition is disabled, 0 where the hold limit is
reached (R100 to R102). -/
def expiryIncident (s : State) (x : Partition × HeldEntry) : Incident :=
  { kind := .holdExpired, partition := some x.1, requester := some x.2.request.requester
    tag := some x.2.request.tag, addr := some x.2.request.addr
    detail := if s.banks.inForce.parts[x.1].enabled = false then 1 else 0 }

/-- The Incident Unit once every departure of a frame start has been recorded, in order (R102, R140). -/
def expiriesRecorded (s : State) : IncidentUnit :=
  (departures s).foldl (fun u x => u.take (expiryIncident s x) (incidentFrame s) (shownPhase s)) s.incidents

/-- The partition may release in ENFORCE (R111). -/
abbrev EnforceEligible (s : State) (p : Partition) : Prop :=
  s.seq.state = .running ∧ (s.seq.phase.any fun ph => s.banks.inForce.parts[p].window.getLsbD ph.val) = true ∧
  (s.hold[p].head?.any fun e => decide (((e.request.lenLess1.val + 1 : Nat) : Int) ≤ s.credit[p].remaining)) = true

/-- The partition may release under the mode in force (R111, R112). -/
abbrev Eligible (s : State) (p : Partition) : Prop :=
  (s.mode.inForce = .enforce ∧ EnforceEligible s p) ∨ (s.mode.inForce = .draining ∧ s.hold[p] ≠ [])

/-- How many partitions stand before `p` in the order that starts after the pointer (R113). -/
def rank (pointer p : Partition) : Nat := (p - pointer - 1).val

/-- The conditions of a release but for eligibility (R110). -/
abbrev ReleaseReady (s : State) : Prop :=
  s.offer = none ∧ (∃ i : OttIndex, s.ott[i] = .free) ∧ s.pins.drst = false

/-- The incident MODE_CHANGED with the new mode in force in the low byte of its detail (R70, 11.5). -/
def modeChangedTo (m : Mode) : Incident :=
  { kind := .modeChanged, partition := none, requester := none, tag := none, addr := none
    detail := match m with
      | .straight => 0
      | .observe => 1
      | .enforce => 2
      | .draining => 3 }

/-- The drain that ends as `m` comes into force at the departure of the last held entry (R69). -/
def drainEnded (m : Mode) (s : State) : State :=
  { s with
    mode := { s.mode with inForce := m, drainTarget := none }
    incidents := s.incidents.take (modeChangedTo m) (incidentFrame s) (shownPhase s) }

/-- The indices whose deadline expiry waits, with their transactions, in ascending order (R124). -/
def dueEntries (s : State) : List (OttIndex × Transaction) :=
  (List.finRange 32).filterMap fun i => match s.ott[i] with
    | .opened t 0 => some (i, t)
    | .opened _ (_ + 1) => none
    | .free => none
    | .expired _ => none

/-- The incident of a deadline expiry (R124). -/
def timeoutIncident (i : OttIndex) (t : Transaction) : Incident :=
  { kind := .responseTimeout, partition := t.partition, requester := some t.requester, tag := some t.tag
    addr := some t.addr, detail := BitVec.ofNat 16 i.val }

/-- The link after a transaction that ends without a sound frame (R150 to R154). -/
def linkError (st : ReplyStatus) (mosi : List Bool) : Link :=
  { state := .idle, buffer := (groupBits mosi).1.take 203, bits := (groupBits mosi).2
    reply := { status := st, bytes := [] } }

/-! ## The layouts of Chapter 11, field by field -/

/-- A field of `n` bytes, the most significant first (R162). -/
def field (n v : Nat) : List Byte := (List.range n).map fun k => BitVec.ofNat 8 (v / 256 ^ (n - 1 - k))

/-- The bank codes of 11.3. -/
def bankNumber : Option BankId → Nat
  | some .bank0 => 0
  | some .bank1 => 1
  | none => 255

/-- The mode codes of 11.3. -/
def modeNumber : Option Mode → Nat
  | some .straight => 0
  | some .observe => 1
  | some .enforce => 2
  | some .draining => 3
  | none => 255

/-- The bank-state codes of 11.3. -/
def bankStateNumber : BankState → Nat
  | .editing => 0
  | .ready => 1
  | .active => 2

/-- The partition and map-entry codes of 11.3. -/
def partitionNumber : Option Partition → Nat
  | some p => p.val
  | none => 255

/-- The phase codes of 11.3. -/
def phaseNumber : ShownPhase → Nat
  | .letter p => p.val
  | .gap => 8

/-- The kind codes of 11.5. -/
def kindNumber : IncidentKind → Nat
  | .queueFull => 0x01
  | .storeFull => 0x02
  | .unmapped => 0x03
  | .duplicateTag => 0x04
  | .holdExpired => 0x05
  | .outOfWindow => 0x06
  | .overBudget => 0x07
  | .responseTimeout => 0x08
  | .lateResponse => 0x09
  | .strayResponse => 0x0A
  | .malformedResponse => 0x0B
  | .downstreamReset => 0x0C
  | .bankSwitched => 0x0D
  | .switchDeclined => 0x0E
  | .frameCut => 0x0F
  | .syncMissed => 0x10
  | .modeChanged => 0x11

/-- The status report (11.4; R22 for the phase and the ticks-remaining figure). -/
def statusLayout (s : State) : List Byte :=
  field 1 (match s.seq.state with
    | .stopped => 0
    | .running => 1
    | .gap => 2) ++
  field 4 s.seq.frame.toNat ++
  field 1 (match s.seq.state with
    | .stopped => 255
    | .running => (s.seq.phase.map Fin.val).getD 255
    | .gap => 8) ++
  field 2 (match s.seq.state with
    | .stopped => 0
    | .running => s.seq.ticksLeft
    | .gap => s.seq.guardInForce - s.seq.gapElapsed) ++
  field 1 (match s.seq.cause with
    | some .timed => 0
    | some .sync => 1
    | some .guard => 2
    | none => 255) ++
  field 1 (bankStateNumber s.banks.bank0.state) ++ field 1 (bankStateNumber s.banks.bank1.state) ++
  field 1 (if s.banks.bank0.state = .active then 0 else if s.banks.bank1.state = .active then 1 else 255) ++
  field 1 (bankNumber s.banks.pendingSwitch) ++ field 2 s.banks.framesInBank ++
  field 1 (modeNumber (some s.mode.inForce)) ++ field 1 (modeNumber s.mode.requested) ++
  field 1 (modeNumber s.mode.drainTarget) ++
  (List.finRange 8).flatMap (fun p => field 1 (s.hold[p]).length) ++
  field 1 (storeCount s) ++ field 1 (openCount s) ++ field 1 (expiredCount s) ++ field 1 s.offer.isSome.toNat ++
  field 1 s.returnQueue.length ++ field 1 s.incidents.queue.length ++ field 1 s.incidents.lost ++
  field 1 s.pins.drst.toNat

/-- The settings (11.6). -/
def settingsLayout (n : Settings) : List Byte :=
  field 1 n.prescale.val ++
  field 1 (match n.syncMode with
    | .free => 0
    | .follow => 1) ++
  field 2 n.syncGuard.toNat ++ field 1 n.deadline.val ++ field 1 n.alternation.toNat ++ field 1 n.exponent.val ++
  field 1 n.alertThreshold.val ++ field 1 n.alertEnable.toNat

/-- The phase count and the eight lengths, A first (11.3). -/
def phasesLayout (c : Schedule) : List Byte :=
  field 1 c.phaseCount.val ++ (List.finRange 8).flatMap fun p => field 2 (c.lengths[p]).toNat

/-- The partition record (11.6); bit n of the window byte stands for phase n (R163). -/
def recordLayout (r : PartRecord) : List Byte :=
  field 1 r.enabled.toNat ++ [r.window] ++ field 2 r.budgetBase.val ++ field 1 r.budgetFraction.val ++
  field 1 r.queueLimit.val ++ field 1 r.holdLimit.val

/-- The statistics and credit items, remaining credit in two's complement (11.6, R162). -/
def statisticsLayout (t : Stats) (c : Credit) : List Byte :=
  field 4 t.released.toNat ++ field 4 t.beatsCharged.toNat ++ field 4 t.refused.toNat ++
  field 4 t.holdExpired.toNat ++ field 4 t.timedOut.toNat ++ field 2 c.granted ++
  field 4 (c.remaining % 2 ^ 32).toNat ++ field 4 c.charged ++ field 1 c.fraction.val

/-- One listed entry with its state and deadline ticks (11.6). -/
def entryLayout (i : OttIndex) (expired : Bool) (t : Transaction) (ticks : Nat) : List Byte :=
  field 1 i.val ++
  field 1 (expired.toNat + (match t.kind with
    | .read => 0
    | .write => 2) + 4 * t.inSlot.toNat) ++
  field 1 t.requester.val ++ [t.tag] ++ field 5 (8 * t.addr.toNat) ++ field 1 (t.lenLess1.val + 1) ++
  field 1 (partitionNumber t.partition) ++ field 2 ticks

/-- The transaction listing from a first index (R135, 11.6). -/
def listingLayout (s : State) (first : OttIndex) : List Byte :=
  let listed := (List.finRange 32).filterMap fun i =>
    if i < first then none else
      match s.ott[i] with
      | .free => none
      | .opened t n => some (entryLayout i false t n)
      | .expired t => some (entryLayout i true t 0)
  field 1 listed.length ++ (listed.take 16).flatten

/-- The incident record; a field marked absent in the presence byte is sent as zeros (R163, 11.5). -/
def incidentLayout (r : IncidentRecord) : List Byte :=
  field 2 r.seq.toNat ++ field 1 (kindNumber r.kind) ++
  field 1 (r.frame.isSome.toNat + 2 * r.partition.isSome.toNat + 4 * r.requester.isSome.toNat +
    8 * r.tag.isSome.toNat + 16 * r.addr.isSome.toNat) ++
  field 2 ((r.frame.map BitVec.toNat).getD 0) ++ field 1 ((r.phase.map phaseNumber).getD 0) ++
  field 1 ((r.partition.map Fin.val).getD 0) ++ field 1 ((r.requester.map Fin.val).getD 0) ++
  field 1 ((r.tag.map BitVec.toNat).getD 0) ++ field 5 (8 * (r.addr.map BitVec.toNat).getD 0) ++
  field 2 r.repeatCount ++ field 2 r.detail.toNat

/-- The commands that read state and change none (R30, R57, R135, R156 to R158), with their reply bytes. -/
def readReply (c : LinkCommand) (s : State) : Option (List Byte) :=
  match c with
  | .nop => some []
  | .readStatus => some (statusLayout s)
  | .readSettings => some (settingsLayout s.settings)
  | .readPhases b => (bank? b).map fun b => phasesLayout (s.banks.get b).contents
  | .readPartition b p => (bankPartition? b p).map fun x => recordLayout (s.banks.get x.1).contents.parts[x.2]
  | .readMap b f n => (mapRun? b f n).map fun x =>
      (((s.banks.get x.1).contents.map.toList.drop x.2.1).take x.2.2).flatMap fun e => field 1 (partitionNumber e)
  | .readStatistics p => (fin? 8 p).map fun p => statisticsLayout s.stats[p] s.credit[p]
  | .readTransactions f => (fin? 32 f).map fun f => listingLayout s f
  | _ => none

/-! ## Incidents and the alert line -/

/-- ALERT_N is asserted under these settings with this queue and lost count (R146). -/
abbrev AlertHolds (n : Settings) (u : IncidentUnit) : Prop :=
  (n.alertEnable = true ∧ n.alertThreshold.val ≤ u.queue.length) ∨ 0 < u.lost

/-- The newest record takes the incident (R141). -/
abbrev Coalesces (u : IncidentUnit) (i : Incident) (frame : Option Word32) : Prop :=
  ∃ old n, u.queue = old ++ [n] ∧ n.kind = i.kind ∧ n.partition = i.partition ∧ n.requester = i.requester ∧
    u.newestFrame = frame

/-! ## The close checks -/

/-- The check with this code fails at this item: a phase for check 2, a partition for 3, 4 and 7, a requester for
6, and item 0 for checks 1 and 5, which have no items (the table of R33). -/
def CheckFails (c : Schedule) (code item : Nat) : Prop :=
  match code with
  | 1 => item = 0 ∧ c.phaseCount.val = 0
  | 2 => ∃ p : Phase, p.val = item ∧ p.val < c.phaseCount.val ∧ (c.lengths[p]).toNat = 0
  | 3 => ∃ p : Partition, p.val = item ∧ c.parts[p].enabled = true ∧
      ∃ ph : Phase, c.parts[p].window.getLsbD ph.val = true ∧ c.phaseCount.val ≤ ph.val
  | 4 => ∃ p : Partition, p.val = item ∧ c.parts[p].enabled = true ∧ c.parts[p].window = 0
  | 5 => item = 0 ∧ 48 < (c.parts.toList.map fun r => if r.enabled then r.queueLimit.val else 0).sum
  | 6 => ∃ (r : Requester) (p : Partition), r.val = item ∧ c.map[r] = some p ∧ c.parts[p].enabled = false
  | 7 => ∃ p : Partition, p.val = item ∧ c.parts[p].enabled = true ∧ 1 ≤ c.parts[p].queueLimit.val ∧
      c.parts[p].holdLimit.val = 0 ∧ c.parts[p].budgetBase.val < 16
  | _ => False

/-- The first failure in the order of the checks: no check with a lower code fails, and this one at no lower item
(R33). -/
def FirstFailure (c : Schedule) (code item : Nat) : Prop :=
  CheckFails c code item ∧
  ∀ code' item', code' < code ∨ (code' = code ∧ item' < item) → ¬ CheckFails c code' item'

end Sys2Proof.Claims

open Sys2Proof Sys2Proof.Machine Sys2Proof.Safety Sys2Proof.Claims

/-! ## The machine -/

/-- A step takes the command at the front of the queue and executes it with the queue's rest. -/
def Obligations.StepRunsFrontCommand : Prop :=
  ∀ (c : Instr) (rest : List Instr) (s : State),
    step { s with pending := c :: rest } = exec c { s with pending := rest }

/-- Every command answers a next state, from every state, and leaves the queue alone: no fault, no refusal
(00_scope.md section 7). -/
def Obligations.EveryCommandAnswersNext : Prop :=
  ∀ (c : Instr) (s : State), ∃ t, exec c s = .next t ∧ t.pending = s.pending

/-- The expiries of a tick are handled at once (R3, R7, R123): any command but pin reset and the expiries
themselves acts on the state in which they have been handled, and none waits in it. That state is the one to which
the expiry commands lead, those of the sequencer before those of the OTT or after them (log 5). That a tick leaves
them to be handled so is the model's choice (log 3). -/
def Obligations.ExpiriesHandledFirst : Prop :=
  (∀ (c : Instr) (s : State), Inv s → c ≠ .pinReset → c ≠ .phaseExpiry → c ≠ .guardExpiry → c ≠ .deadlineExpiry →
    quiet (settle s) = true ∧ exec c s = exec c (settle s)) ∧
  (∀ s : State, ∃ (k : Nat) (a b : State),
    (exec .phaseExpiry { s with freeIndex := k } = .next a ∧ exec .guardExpiry a = .next b ∧
      exec .deadlineExpiry b = .next (settle s)) ∨
    (exec .deadlineExpiry { s with freeIndex := k } = .next a ∧ exec .phaseExpiry a = .next b ∧
      exec .guardExpiry b = .next (settle s)))

/-- One tick comes every (prescale + 1) x 32 REFCLK periods (R1), FRAME_OUT running down meanwhile (R14). That a
REFCLK period is a step on an empty queue is the model's choice (log 11). -/
def Obligations.RefclkPeriodsPerTick : Prop :=
  ∀ s : State, Calm s → s.pending = [] → s.divider = 0 →
    (∀ k, k < (s.settings.prescale.val + 1) * 32 →
      Host.Core.run Sys2Proof.core k s =
        Host.Outcome.next ({ s with divider := k, frameOutLeft := s.frameOutLeft - k } : State)) ∧
    Host.Core.run Sys2Proof.core ((s.settings.prescale.val + 1) * 32) s =
      exec .tick { s with frameOutLeft := s.frameOutLeft - (s.settings.prescale.val + 1) * 32 }

/-! ## Time Base and Frame Sequencer -/

/-- TICK: counted against the phase, the gap, and the deadline of each OPEN entry (R1, R7, R11, R123); the divider
starts a new period, whatever its count (the model's choice, log 11), and nothing else changes, the FRAME_OUT pulse
included (log 23); none while RST_N is asserted (log 7). -/
def Obligations.TickCounted : Prop :=
  ∀ s : State, quiet s = true →
    (s.pins.rst = true → exec .tick s = .next s) ∧
    (s.pins.rst = false → exec .tick s = .next { s with
      divider := 0
      seq := match s.seq.state with
        | .stopped => s.seq
        | .running => { s.seq with ticksLeft := s.seq.ticksLeft - 1 }
        | .gap => { s.seq with gapElapsed := min (s.seq.gapElapsed + 1) 65535 }
      ott := Vector.ofFn fun i => match s.ott[i] with
        | .opened t n => .opened t (n - 1)
        | .free => .free
        | .expired t => .expired t })

/-- PHASE_EXPIRY within a frame starts the next phase (R8), and after the last phase in FOLLOW enters GAP (R9,
R10); nothing else changes. -/
def Obligations.PhaseExpiryWithoutFrameStart : Prop :=
  ∀ (s : State) (p : Phase), s.seq.state = .running → s.seq.ticksLeft = 0 → s.seq.phase = some p →
    (∀ n : Phase, n.val = p.val + 1 → n.val < s.banks.inForce.phaseCount.val →
      exec .phaseExpiry s = .next { s with
        seq := { s.seq with phase := some n, ticksLeft := (s.banks.inForce.lengths[n]).toNat } }) ∧
    (s.banks.inForce.phaseCount.val ≤ p.val + 1 → s.settings.syncMode = .follow →
      exec .phaseExpiry s = .next { s with
        seq := { s.seq with state := .gap, phase := none, ticksLeft := 0, gapElapsed := 0
                            guardInForce := s.settings.syncGuard.toNat } })

/-- PHASE_EXPIRY of the last phase in FREE starts a frame with cause TIMED (R9, R12, R13). -/
def Obligations.LastPhaseStartsFrame : Prop :=
  ∀ (s : State) (p : Phase), s.seq.state = .running → s.seq.ticksLeft = 0 → s.seq.phase = some p →
    s.banks.inForce.phaseCount.val ≤ p.val + 1 → s.settings.syncMode = .free →
    exec .phaseExpiry s = .next (frameStart .timed s) ∧ FrameBegun .timed s (frameStart .timed s)

/-- GUARD_EXPIRY records SYNC_MISSED with the guard in force, coalesced, added or lost as the Incident Queue stands,
and then starts a frame with cause GUARD (R11); in an empty queue the record stands first. -/
def Obligations.GuardExpiryStartsFrame : Prop :=
  ∀ s : State, s.seq.state = .gap → 1 ≤ s.seq.guardInForce → s.seq.guardInForce ≤ s.seq.gapElapsed →
    ∃ u t, u = recorded (plainIncident .syncMissed (BitVec.ofNat 16 s.seq.guardInForce)) s ∧
      t = frameStart .guard u ∧ exec .guardExpiry s = .next t ∧ FrameBegun .guard u t ∧
      (s.incidents.queue = [] →
        t.incidents.queue.head? = some (plainRecord .syncMissed (BitVec.ofNat 16 s.seq.guardInForce) s))

/-- An expiry commanded where no tick has brought it is no event (the model's choice, log 7). -/
def Obligations.ExpiryNotDueChangesNothing : Prop :=
  ∀ s : State,
    (¬ (s.seq.state = .running ∧ s.seq.ticksLeft = 0) → exec .phaseExpiry s = .next s) ∧
    (¬ (s.seq.state = .gap ∧ 1 ≤ s.seq.guardInForce ∧ s.seq.guardInForce ≤ s.seq.gapElapsed) →
      exec .guardExpiry s = .next s) ∧
    (dueEntries s = [] → exec .deadlineExpiry s = .next s)

/-- SYNC_IN_ARRIVAL is ignored while STOPPED and in FREE: it changes nothing (R15). In GAP in FOLLOW it starts a
frame with cause SYNC (R17). -/
def Obligations.SyncInIgnoredOrEndsGap : Prop :=
  ∀ s : State, quiet s = true →
    (s.seq.state = .stopped ∨ s.settings.syncMode = .free → exec .syncInArrival s = .next s) ∧
    (s.seq.state = .gap → s.settings.syncMode = .follow →
      exec .syncInArrival s = .next (frameStart .sync s) ∧ FrameBegun .sync s (frameStart .sync s))

/-- SYNC_IN_ARRIVAL in FOLLOW while RUNNING records FRAME_CUT with the ticks remaining, coalesced, added or lost as
the Incident Queue stands, and then starts a frame with cause SYNC (R16); in an empty queue the record stands
first. -/
def Obligations.SyncInCutsFrame : Prop :=
  ∀ s : State, quiet s = true → s.seq.state = .running → s.settings.syncMode = .follow →
    ∃ u t, u = recorded (plainIncident .frameCut (BitVec.ofNat 16 s.seq.ticksLeft)) s ∧
      t = frameStart .sync u ∧ exec .syncInArrival s = .next t ∧ FrameBegun .sync u t ∧
      (s.incidents.queue = [] →
        t.incidents.queue.head? = some (plainRecord .frameCut (BitVec.ofNat 16 s.seq.ticksLeft) s))

/-- FRAME_OUT_PULSE_END: the line returns low and nothing else changes (R14). That it does so at any count of the
pulse is the model's choice (log 23). -/
def Obligations.FrameOutPulseEnds : Prop :=
  ∀ s : State, quiet s = true →
    exec .frameOutPulseEnd s = .next { s with frameOutLeft := 0 } ∧
    frameOutHigh { s with frameOutLeft := 0 } = false

/-! ## Frame start: Bank Control, Mode Control, hold queues, credit -/

/-- Bank Control at a frame start: no attempt at the first; at a later one an attempt for a pending switch or a due
alternation, which switches to a READY bank and is declined by any other, the pending switch cleared either way;
the frames-in-bank count; and in its reaction the record BANK_SWITCHED with the new bank in force or SWITCH_DECLINED
with the target's state, and none without an attempt (R35, R36). -/
def Obligations.BankDecisionAtFrameStart : Prop :=
  (∀ (c : Cause) (s : State) (a : BankId), s.banks.active = some a →
    (s.seq.firstPending = true →
      (frameStart c s).banks = { s.banks with framesInBank := 1 } ∧ (bankDecision s).1 = .notDue) ∧
    (s.seq.firstPending = false → s.banks.pendingSwitch = none →
      ¬ (s.settings.alternation = true ∧ s.banks.framesInBank = 2 ^ s.settings.exponent.val) →
      (frameStart c s).banks = { s.banks with framesInBank := min (s.banks.framesInBank + 1) 65535 } ∧
        (bankDecision s).1 = .notDue) ∧
    (s.seq.firstPending = false →
      (s.banks.pendingSwitch ≠ none ∨
        (s.settings.alternation = true ∧ s.banks.framesInBank = 2 ^ s.settings.exponent.val)) →
      ((s.banks.get a.other).state ≠ .ready →
        (frameStart c s).banks = { s.banks with pendingSwitch := none, framesInBank := 1 } ∧
        (bankDecision s).1 = .declined a.other) ∧
      ((s.banks.get a.other).state = .ready →
        (bankDecision s).1 = .switched a.other ∧
        ((frameStart c s).banks.get a).state = .ready ∧ ((frameStart c s).banks.get a.other).state = .active ∧
        ((frameStart c s).banks.get a).contents = (s.banks.get a).contents ∧
        ((frameStart c s).banks.get a.other).contents = (s.banks.get a.other).contents ∧
        (frameStart c s).banks.pendingSwitch = none ∧ (frameStart c s).banks.framesInBank = 1))) ∧
  (∀ (first : Bool) (b : BankId) (u : State),
    bankReaction first .notDue u = { u with banks := { u.banks with
      framesInBank := if first = true then 1 else min (u.banks.framesInBank + 1) 65535 } } ∧
    bankReaction first (.switched b) u =
      recorded (plainIncident .bankSwitched (if b = .bank0 then 0 else 1))
        { u with banks := { u.banks with framesInBank := 1 } } ∧
    ((u.banks.get b).state = .editing → bankReaction first (.declined b) u =
      recorded (plainIncident .switchDeclined 0) { u with banks := { u.banks with framesInBank := 1 } }))

/-- Mode Control's reaction to a frame start: the table of R67, the request cleared whatever the outcome, and
nothing but the mode and the incidents changed. -/
def Obligations.RequestedModeTaken : Prop :=
  ∀ s : State,
    (s.mode.requested = none → modeReaction s = s) ∧
    (∀ r, s.mode.requested = some r → r ≠ .draining →
      (modeReaction s).mode.requested = none ∧
      modeReaction s = { s with mode := (modeReaction s).mode, incidents := (modeReaction s).incidents } ∧
      (s.mode.inForce = .straight ∨ s.mode.inForce = .observe →
        (modeReaction s).mode.inForce = r ∧ (modeReaction s).mode.drainTarget = none) ∧
      (r = .enforce → (modeReaction s).mode.inForce = .enforce ∧ (modeReaction s).mode.drainTarget = none) ∧
      (s.mode.inForce = .enforce → r ≠ .enforce → (∀ p : Partition, s.hold[p] = []) →
        (modeReaction s).mode.inForce = r ∧ (modeReaction s).mode.drainTarget = none) ∧
      (s.mode.inForce = .enforce → r ≠ .enforce → (∃ p : Partition, s.hold[p] ≠ []) →
        (modeReaction s).mode.inForce = .draining ∧ (modeReaction s).mode.drainTarget = some r) ∧
      (s.mode.inForce = .draining → r ≠ .enforce →
        (modeReaction s).mode.inForce = .draining ∧ (modeReaction s).mode.drainTarget = some r) ∧
      ((modeReaction s).mode.inForce = s.mode.inForce → (modeReaction s).incidents = s.incidents) ∧
      ((modeReaction s).mode.inForce ≠ s.mode.inForce → (modeReaction s).incidents =
        s.incidents.take (modeChangedTo (modeReaction s).mode.inForce) (incidentFrame s) (shownPhase s)))

/-- The mode in force after a frame start is the same in every order of the reactions (R68). -/
def Obligations.ModeSameInEveryOrder : Prop :=
  ∀ (o o' : ReactionOrder) (first : Bool) (a : SwitchAttempt) (s : State), ModeLaw s →
    (inOrder o (bankReaction first a) modeReaction holdReaction s).mode =
      (inOrder o' (bankReaction first a) modeReaction holdReaction s).mode

/-- The hold queues' reaction to a frame start: exactly the entries of R99 to R101 leave, each answered EXPIRED,
recorded as HOLD_EXPIRED and counted, in the order P0's first, head to tail (R102); a drain that the last of them
ends brings its target into force with MODE_CHANGED after the last HOLD_EXPIRED (R69, R140); and nothing else
changes. -/
def Obligations.HoldExpiryAtFrameStart : Prop :=
  ∀ s : State,
    (∀ p : Partition, (holdReaction s).hold[p] = s.hold[p].drop (expiring s p).length) ∧
    (holdReaction s).returnQueue = s.returnQueue ++ (departures s).map (fun x =>
      { requester := x.2.request.requester, tag := x.2.request.tag, status := .expired, data := [] }) ∧
    (∀ p : Partition, (holdReaction s).stats[p] =
      { s.stats[p] with holdExpired := s.stats[p].holdExpired + BitVec.ofNat 32 (expiring s p).length }) ∧
    (¬ (s.mode.inForce = .draining ∧ departures s ≠ [] ∧ ∀ p : Partition, (holdReaction s).hold[p] = []) →
      holdReaction s = { s with
        hold := (holdReaction s).hold, returnQueue := (holdReaction s).returnQueue
        stats := (holdReaction s).stats, incidents := expiriesRecorded s }) ∧
    (∀ m, s.mode.inForce = .draining → departures s ≠ [] → (∀ p : Partition, (holdReaction s).hold[p] = []) →
      s.mode.drainTarget = some m → m ≠ .draining →
      holdReaction s = drainEnded m { s with
        hold := (holdReaction s).hold, returnQueue := (holdReaction s).returnQueue
        stats := (holdReaction s).stats, incidents := expiriesRecorded s })

/-- Eight refills of an enabled partition under one record grant 8 x base + f beats and bring the accumulator back
to where it was (R55). -/
def Obligations.EightRefillsGrantFraction : Prop :=
  ∀ (c : Credit) (r : PartRecord), r.enabled = true →
    ((List.range 8).map fun k => (Nat.repeat (fun x : Credit => x.refill r) (k + 1) c).granted).sum =
      8 * r.budgetBase.val + r.budgetFraction.val ∧
    (Nat.repeat (fun x : Credit => x.refill r) 8 c).fraction = c.fraction

/-! ## Requester Port, Admission, Release -/

/-- REQUEST_ARRIVAL puts the request at the port where none is presented (R73; where one is, log 14), and
RESPONSE_DELIVERY takes the head of the Return Queue and nothing else (R85; with the queue empty, log 7). -/
def Obligations.RequesterPortHandshakes : Prop :=
  ∀ (s : State) (q : Request), quiet s = true →
    (s.presented = none → exec (.requestArrival q) s = .next { s with presented := some q }) ∧
    (s.presented ≠ none → exec (.requestArrival q) s = .next s) ∧
    (∀ r rest, s.returnQueue = r :: rest → exec .responseDelivery s = .next { s with returnQueue := rest }) ∧
    (s.returnQueue = [] → exec .responseDelivery s = .next s)

/-- A taking or a release whose conditions do not hold is not made: the request and the entries wait (R75, R110).
That the command then changes nothing is the model's choice (log 7). -/
def Obligations.TakingAndReleaseWait : Prop :=
  ∀ s : State, quiet s = true →
    (s.presented = none ∨ ¬ Takeable s → exec .taking s = .next s) ∧
    (¬ ReleaseReady s ∨ (∀ p : Partition, ¬ Eligible s p) → exec .release s = .next s)

/-- A taken request whose requester and tag are live is refused: REFUSED, DUPLICATE_TAG with the partition that
classification found in OBSERVE or ENFORCE, and that partition's counter (R77). -/
def Obligations.TakingRefusesDuplicate : Prop :=
  ∀ (s : State) (q : Request), quiet s = true → s.presented = some q → Takeable s →
    (q.requester, q.tag) ∈ liveKeys s →
    ∃ cls : Option Partition,
      cls = (if s.mode.inForce = .straight then none else s.banks.inForce.map[q.requester]) ∧
      exec .taking s = .next
        (let u := answered q.requester q.tag .refused (recorded
          { kind := .duplicateTag, partition := cls, requester := some q.requester, tag := some q.tag
            addr := some q.addr, detail := 0 } { s with presented := none })
         match cls with
         | some p => refusedOne p u
         | none => u)

/-- A request taken in STRAIGHT passes: the lowest FREE entry is opened without a partition and the request enters
the Offer Slot under its index; nothing is charged or recorded (R79, R121). -/
def Obligations.TakingPassesInStraight : Prop :=
  ∀ (s : State) (q : Request) (i : OttIndex), quiet s = true → s.presented = some q → Takeable s →
    s.mode.inForce = .straight → (q.requester, q.tag) ∉ liveKeys s → LowestFree s i →
    exec .taking s = .next (opened i (takenOf q) none { s with presented := none })

/-- A request taken in OBSERVE passes: unmapped it is recorded as UNMAPPED (R80); mapped it is judged for window
and budget, in that order, and charged (R81). -/
def Obligations.TakingPassesInObserve : Prop :=
  ∀ (s : State) (q : Request) (i : OttIndex), quiet s = true → s.presented = some q → Takeable s →
    s.mode.inForce = .observe → (q.requester, q.tag) ∉ liveKeys s → LowestFree s i →
    (s.banks.inForce.map[q.requester] = none →
      exec .taking s = .next (opened i (takenOf q) none (recorded
        { kind := .unmapped, partition := none, requester := some q.requester, tag := some q.tag
          addr := some q.addr, detail := 0 } { s with presented := none }))) ∧
    (∀ p, s.banks.inForce.map[q.requester] = some p →
      exec .taking s = .next (opened i (takenOf q) (some p) (chargedTo p (q.lenLess1.val + 1)
        (let w : State := if windowOpen s p = true then { s with presented := none } else recorded
          { kind := .outOfWindow, partition := some p, requester := some q.requester, tag := some q.tag
            addr := some q.addr, detail := BitVec.ofNat 16 (q.lenLess1.val + 1) } { s with presented := none }
         if ((q.lenLess1.val + 1 : Nat) : Int) ≤ s.credit[p].remaining then w else recorded
          { kind := .overBudget, partition := some p, requester := some q.requester, tag := some q.tag
            addr := some q.addr, detail := BitVec.ofInt 16 (max (-32768) s.credit[p].remaining) } w))))

/-- Admission refuses in the order of R92: UNMAPPED, QUEUE_FULL, STORE_FULL, each answered REFUSED and recorded,
the last two counted (R93 to R95). -/
def Obligations.AdmissionRefuses : Prop :=
  ∀ (s : State) (q : Request), quiet s = true → s.presented = some q → Takeable s →
    s.mode.inForce = .enforce → (q.requester, q.tag) ∉ liveKeys s →
    (s.banks.inForce.map[q.requester] = none →
      exec .taking s = .next (answered q.requester q.tag .refused (recorded
        { kind := .unmapped, partition := none, requester := some q.requester, tag := some q.tag
          addr := some q.addr, detail := 0 } { s with presented := none }))) ∧
    (∀ p, s.banks.inForce.map[q.requester] = some p →
      s.banks.inForce.parts[p].queueLimit.val ≤ s.hold[p].length →
      exec .taking s = .next (refusedOne p (answered q.requester q.tag .refused (recorded
        { kind := .queueFull, partition := some p, requester := some q.requester, tag := some q.tag
          addr := some q.addr, detail := BitVec.ofNat 16 s.hold[p].length } { s with presented := none })))) ∧
    (∀ p, s.banks.inForce.map[q.requester] = some p →
      s.hold[p].length < s.banks.inForce.parts[p].queueLimit.val → storeCount s = 48 →
      exec .taking s = .next (refusedOne p (answered q.requester q.tag .refused (recorded
        { kind := .storeFull, partition := some p, requester := some q.requester, tag := some q.tag
          addr := some q.addr, detail := 48 } { s with presented := none }))))

/-- A request that meets no cause of refusal is admitted at the tail of its partition's queue with the frame number
held; no incident, no counter, no response (R96). -/
def Obligations.AdmissionAdmits : Prop :=
  ∀ (s : State) (q : Request) (p : Partition), quiet s = true → s.presented = some q → Takeable s →
    s.mode.inForce = .enforce → (q.requester, q.tag) ∉ liveKeys s →
    s.banks.inForce.map[q.requester] = some p →
    s.hold[p].length < s.banks.inForce.parts[p].queueLimit.val → storeCount s ≠ 48 →
    exec .taking s = .next { s with
      presented := none
      hold := s.hold.set p.val
        (s.hold[p] ++ [{ request := takenOf q, partition := p, admitted := s.seq.frame }]) p.isLt }

/-- A release moves the head of the first eligible partition after the pointer into the Offer Slot, charges it and
opens its entry at the lowest FREE index, and nothing else changes (R113, R114); where it empties the hold queues in
DRAINING, the drain target comes into force at it, with MODE_CHANGED (R69). -/
def Obligations.ReleaseMovesHead : Prop :=
  ∀ (s : State) (p : Partition) (i : OttIndex) (e : HeldEntry) (rest : List HeldEntry),
    quiet s = true → s.offer = none → s.pins.drst = false → LowestFree s i → Eligible s p →
    (∀ j : Partition, rank s.pointer j < rank s.pointer p → ¬ Eligible s j) →
    s.hold[p] = e :: rest → e.partition = p →
    ∃ u : State,
      u = opened i e.request (some p) (chargedTo p (e.request.lenLess1.val + 1)
        { s with pointer := p, hold := s.hold.set p.val rest p.isLt }) ∧
      (¬ (s.mode.inForce = .draining ∧ ∀ q : Partition, u.hold[q] = []) → exec .release s = .next u) ∧
      (∀ m, s.mode.inForce = .draining → (∀ q : Partition, u.hold[q] = []) → s.mode.drainTarget = some m →
        m ≠ .draining → exec .release s = .next (drainEnded m u))

/-- A release made while ENFORCE is in force is made RUNNING in a phase of the releasing partition's window, and
leaves that partition's remaining credit at 0 or above (R111, R53). -/
def Obligations.EnforceReleasesInWindowAndCredit : Prop :=
  ∀ s t : State, Inv s → quiet s = true → s.mode.inForce = .enforce → exec .release s = .next t →
    s.offer = none → t.offer ≠ none →
    s.seq.state = .running ∧ windowOpen s t.pointer = true ∧ 0 ≤ t.credit[t.pointer].remaining

/-- While a partition stays eligible, each release of another brings it nearer to its turn, so it waits behind at
most seven (R113). -/
def Obligations.EligiblePartitionWaitsAtMostSeven : Prop :=
  ∀ (s : State) (p : Partition), Eligible s p →
    rank s.pointer p ≤ 7 ∧
    ∃ c, chosen s = some c ∧ Eligible s c ∧ (c = p ∨ rank c p < rank s.pointer p)

/-! ## Memory Port and OTT -/

/-- ACCEPTANCE empties the Offer Slot and marks the entry of its index as out of the slot, and changes nothing else;
with nothing offered it changes nothing (R108, R117; log 7). -/
def Obligations.AcceptanceEmptiesSlot : Prop :=
  ∀ s : State, quiet s = true →
    (s.offer = none → exec .acceptance s = .next s) ∧
    (∀ o, s.offer = some o → exec .acceptance s = .next { s with
      offer := none
      ott := s.ott.set o.mtag.val (match s.ott[o.mtag] with
        | .opened t n => .opened { t with inSlot := false } n
        | .expired t => .expired { t with inSlot := false }
        | .free => .free) o.mtag.isLt })

/-- RESPONSE_ARRIVAL that is not forwarded (R125): ignored under DRST_N (R132), stray for the request still offered
or a FREE entry (R128), late for an EXPIRED entry (R127); not taken while RST_N is asserted (R87; a second one then, log 13). -/
def Obligations.ResponseNotForwarded : Prop :=
  ∀ (s : State) (r : Response), quiet s = true →
    (s.pins.rst = true → s.memPresented = none →
      exec (.responseArrival r) s = .next { s with memPresented := some r }) ∧
    (s.pins.rst = true → s.memPresented ≠ none → exec (.responseArrival r) s = .next s) ∧
    (s.pins.rst = false →
      (s.pins.drst = true → exec (.responseArrival r) s = .next s) ∧
      (s.pins.drst = false → (s.offer.any fun o => o.mtag == r.mtag) = true ∨ s.ott[r.mtag] = .free →
        exec (.responseArrival r) s = .next (recorded
          { kind := .strayResponse, partition := none, requester := none, tag := none, addr := none
            detail := BitVec.ofNat 16 r.mtag.val } s)) ∧
      (s.pins.drst = false → (s.offer.any fun o => o.mtag == r.mtag) = false →
        ∀ t, s.ott[r.mtag] = .expired t →
        exec (.responseArrival r) s = .next (recorded
          { kind := .lateResponse, partition := none, requester := some t.requester, tag := some t.tag
            addr := none, detail := BitVec.ofNat 16 r.mtag.val }
          { s with ott := s.ott.set r.mtag.val .free r.mtag.isLt })))

/-- RESPONSE_ARRIVAL that names an OPEN entry whose request has been accepted: the table of R126. The entry becomes
FREE, one response enters the Return Queue under the requester's tag, and a malformed response is recorded. -/
def Obligations.ResponseForwarded : Prop :=
  ∀ (s : State) (r : Response) (t : Transaction) (n : Nat), Calm s → s.pins.drst = false →
    (s.offer.any fun o => o.mtag == r.mtag) = false → s.ott[r.mtag] = .opened t n →
    ∃ (st : UpStatus) (d : List BeatData),
      (r.status = .error → st = .memError ∧ d = []) ∧
      (r.status = .ok → t.kind = .read → r.beatCount.val = t.lenLess1.val + 1 →
        st = .ok ∧ d = r.data.toList.take (t.lenLess1.val + 1)) ∧
      (r.status = .ok → t.kind = .read → r.beatCount.val ≠ t.lenLess1.val + 1 → st = .memError ∧ d = []) ∧
      (r.status = .ok → t.kind = .write → r.beatCount.val = 0 → st = .ok ∧ d = []) ∧
      (r.status = .ok → t.kind = .write → r.beatCount.val ≠ 0 → st = .memError ∧ d = []) ∧
      (let u : State := { s with
          ott := s.ott.set r.mtag.val .free r.mtag.isLt
          returnQueue := s.returnQueue ++ [{ requester := t.requester, tag := t.tag, status := st, data := d }] }
       exec (.responseArrival r) s = .next (if r.status = .ok ∧ st = .memError then recorded
          { kind := .malformedResponse, partition := none, requester := some t.requester, tag := some t.tag
            addr := some t.addr, detail := BitVec.ofNat 16 r.beatCount.val } u
        else u))

/-- DEADLINE_EXPIRY: every entry whose count a tick has brought to 0 becomes EXPIRED, with its TIMEOUT response and
its incident in ascending index order and its partition's counter (R124); nothing else changes. -/
def Obligations.DeadlineExpiriesInOrder : Prop :=
  ∀ s : State, ∃ t, exec .deadlineExpiry s = .next t ∧
    (∀ i : OttIndex, t.ott[i] = match s.ott[i] with
      | .opened x 0 => .expired x
      | .opened x (n + 1) => .opened x (n + 1)
      | .free => .free
      | .expired x => .expired x) ∧
    t.returnQueue = s.returnQueue ++ (dueEntries s).map (fun x =>
      { requester := x.2.requester, tag := x.2.tag, status := .timeout, data := [] }) ∧
    t.incidents = (dueEntries s).foldl
      (fun u x => u.take (timeoutIncident x.1 x.2) (incidentFrame s) (shownPhase s)) s.incidents ∧
    (∀ p : Partition, t.stats[p] = { s.stats[p] with
      timedOut := s.stats[p].timedOut +
        BitVec.ofNat 32 ((dueEntries s).countP fun x => x.2.partition == some p) }) ∧
    t = { s with ott := t.ott, returnQueue := t.returnQueue, incidents := t.incidents, stats := t.stats }

/-- DRST_N_ASSERTION empties the Offer Slot, answers every OPEN entry ABORTED in ascending index order, frees every
entry and records DOWNSTREAM_RESET with their number (R116, R132); a line already asserted is not asserted again,
and under RST_N the level alone changes (log 7). DRST_N_DEASSERTION changes the level alone (R117, R132). -/
def Obligations.MemorySideReset : Prop :=
  ∀ s : State, quiet s = true →
    (s.pins.drst = true → exec .drstNAssertion s = .next s) ∧
    (s.pins.drst = false → s.pins.rst = true →
      exec .drstNAssertion s = .next { s with pins := { s.pins with drst := true } }) ∧
    (s.pins.drst = false → s.pins.rst = false → exec .drstNAssertion s = .next (recorded
      { kind := .downstreamReset, partition := none, requester := none, tag := none, addr := none
        detail := BitVec.ofNat 16 (openCount s) }
      { s with
        pins := { s.pins with drst := true }
        offer := none
        ott := Vector.replicate 32 .free
        returnQueue := s.returnQueue ++ s.ott.toList.filterMap (fun x => match x with
          | .opened t _ => some { requester := t.requester, tag := t.tag, status := .aborted, data := [] }
          | .free | .expired _ => none) })) ∧
    exec .drstNDeassertion s = .next { s with pins := { s.pins with drst := false } }

/-- An acceptance and the assertion of DRST_N that come together end in one state in either order (R117). -/
def Obligations.AcceptanceAndResetEitherOrder : Prop :=
  ∀ s a b c d : State, Calm s → s.pins.drst = false →
    exec .acceptance s = .next a → exec .drstNAssertion a = .next b →
    exec .drstNAssertion s = .next c → exec .acceptance c = .next d → b = d

/-! ## Configuration Link -/

/-- CS_N_ASSERTION (R150, R154): in IDLE a transaction begins with an empty buffer; in EXECUTING the execution is
completed whole (log 15) and the transaction is early; and what MISO then carries, the most significant bit
of each byte first (R162). A line already asserted is not asserted
again, and under RST_N the level alone changes (log 7). -/
def Obligations.TransactionBegins : Prop :=
  ∀ s : State, quiet s = true →
    (s.pins.cs = true → exec .csNAssertion s = .next s) ∧
    (s.pins.cs = false → s.pins.rst = true →
      exec .csNAssertion s = .next { s with pins := { s.pins with cs := true } }) ∧
    (∀ k j, j < 8 → misoBit s (8 * k + j) = (misoByte s k).map fun b => b.getLsbD (7 - j)) ∧
    (Calm s → s.pins.cs = false → s.link.state = .idle →
      ∃ t, exec .csNAssertion s = .next t ∧
        t = { s with
          pins := { s.pins with cs := true }
          link := { s.link with state := .receiving false, buffer := [], bits := [] } } ∧
        ∀ k, misoByte t k = some ((replyStream s.link.reply).getD k 0xFF#8)) ∧
    (Calm s → s.pins.cs = false → ∀ x, s.link.state = .executing x →
      ∃ t u, exec .endOfExecution s = .next u ∧ exec .csNAssertion s = .next t ∧
        t = { u with
          pins := { u.pins with cs := true }
          link := { u.link with state := .receiving true, buffer := [], bits := [] } } ∧
        ∀ k, misoByte t k = some 0xFF#8)

/-- CS_N_DEASSERTION (R150 to R154): without an edge of SCLK nothing is carried out and the Reply Register stands;
an early transaction is a framing error; a frame that fails a check sets its status, the link back
in IDLE at the deassertion itself (log 24); a sound one is to be carried
out; in IDLE nothing is (R165). No other block changes. A line not asserted is not deasserted (log 7). -/
def Obligations.TransactionEnds : Prop :=
  ∀ (s : State) (mosi : List Bool), quiet s = true →
    (s.pins.cs = false → exec (.csNDeassertion mosi) s = .next s) ∧
    (s.pins.cs = true → s.link.state = .idle →
      exec (.csNDeassertion mosi) s = .next { s with pins := { s.pins with cs := false } }) ∧
    (∀ early, s.pins.cs = true → s.link.state = .receiving early →
      (mosi = [] → exec (.csNDeassertion mosi) s = .next { s with
        pins := { s.pins with cs := false }, link := { s.link with state := .idle } }) ∧
      (mosi ≠ [] → early = true → exec (.csNDeassertion mosi) s = .next { s with
        pins := { s.pins with cs := false }, link := linkError .framingError mosi }) ∧
      (∀ st, mosi ≠ [] → early = false → checkFrame (groupBits mosi).1 (groupBits mosi).2 = .error st →
        exec (.csNDeassertion mosi) s = .next { s with
          pins := { s.pins with cs := false }, link := linkError st mosi }) ∧
      (∀ c, mosi ≠ [] → early = false → checkFrame (groupBits mosi).1 (groupBits mosi).2 = .sound c →
        exec (.csNDeassertion mosi) s = .next { s with
          pins := { s.pins with cs := false }
          link := { s.link with
            state := .executing (.command c), buffer := (groupBits mosi).1.take 203
            bits := (groupBits mosi).2 } }))

/-- The framing check fails in exactly the five cases of R151. -/
def Obligations.FramingFailsInFiveCases : Prop :=
  ∀ (bytes : List Byte) (bits : List Bool),
    checkFrame bytes bits = .error .framingError ↔
      (bits ≠ [] ∨ bytes.length < 3 ∨
        ∃ code len rest, bytes = code :: len :: rest ∧
          (200 < len.toNat ∨ bytes.length < 3 + len.toNat ∨ ∃ b ∈ rest.drop (len.toNat + 1), b ≠ 0xFF#8))

/-- Every command whose arguments are in range, sent as the frame of 11.2 and 11.3 with any padding of FFh, is the
command the link then carries out, every argument bit intact (R150 to R153, R162, R164). -/
def Obligations.FrameSentIsCommandExecuted : Prop :=
  ∀ (s : State) (c : LinkCommand) (padding : Nat), quiet s = true → s.pins.cs = true →
    s.link.state = .receiving false → argsInRange c = true → c.wf = true →
    ∃ t, exec (.csNDeassertion (bitsOfBytes (frameOf c ++ List.replicate padding 0xFF#8))) s = .next t ∧
      t.link.state = .executing (.command c) ∧ t.link.reply = s.link.reply ∧
      t = { s with pins := { s.pins with cs := false }, link := t.link }

/-- END_OF_EXECUTION: the reply enters the Reply Register and the link leaves EXECUTING for IDLE; a command not yet
carried out is carried out in it (R154, log 9); otherwise nothing changes (log 7). -/
def Obligations.ExecutionEnds : Prop :=
  ∀ s : State, quiet s = true →
    (∀ r, s.link.state = .executing (.replying r) →
      exec .endOfExecution s = .next { s with link := { s.link with state := .idle, reply := r } }) ∧
    (∀ c, s.link.state = .executing (.command c) → s.pins.rst = false → s.pins.cs = false →
      ∃ t u r, exec c.row s = .next u ∧ u.link.state = .executing (.replying r) ∧
        exec .endOfExecution s = .next t ∧ t = { u with link := { u.link with state := .idle, reply := r } }) ∧
    ((s.link.state = .idle ∨ ∃ e, s.link.state = .receiving e) → exec .endOfExecution s = .next s)

/-- A command row while CS_N or RST_N is asserted carries out nothing (R149), and while the link is EXECUTING
something else the execution is completed first (R154; log 9). -/
def Obligations.CommandRowWaitsItsTurn : Prop :=
  ∀ (c : LinkCommand) (s : State), quiet s = true →
    (s.pins.rst = true ∨ s.pins.cs = true → exec c.row s = .next s) ∧
    (Calm s → s.pins.cs = false → s.link.state ≠ .executing (.command c) →
      ∃ u, exec .endOfExecution s = .next u ∧ (quiet u = true → exec c.row s = exec c.row u))

/-- A command with a field out of range is answered BAD_ARGUMENT and changes nothing in any block (R153). -/
def Obligations.BadArgumentChangesNothing : Prop :=
  ∀ (c : LinkCommand) (s : State), LinkFree c s → argsInRange c = false →
    exec c.row s = .next (withReply .badArgument [] s)

/-- A reply status other than OK, ACCEPTED and QUEUE_EMPTY reports a command that changed nothing (R155). -/
def Obligations.RefusedCommandChangesNothing : Prop :=
  ∀ (c : LinkCommand) (s t : State) (st : ReplyStatus) (bytes : List Byte), LinkFree c s →
    exec c.row s = .next t → t.link.state = .executing (.replying { status := st, bytes := bytes }) →
    st ≠ .ok → st ≠ .accepted → st ≠ .queueEmpty → t = withReply st bytes s

/-- NOP and the read commands change nothing and reply OK with their data (R30, R57, R135, R156 to R158). -/
def Obligations.ReadsReportAndChangeNothing : Prop :=
  ∀ (c : LinkCommand) (s : State) (bytes : List Byte), LinkFree c s → readReply c s = some bytes →
    exec c.row s = .next (withReply .ok bytes s)

/-- The status report is laid out as 11.4 gives, 34 bytes, and its figures agree with one another: a bank is ACTIVE
unless STOPPED, the queue lengths add up to the Hold Store count, the OPEN and EXPIRED counts to at most 32, and the
Return Queue, Hold Store and OPEN counts to at most 96 (R157, R84). -/
def Obligations.StatusReportAgrees : Prop :=
  ∀ s : State, Inv s → quiet s = true →
    statusBytes s = statusLayout s ∧ (statusLayout s).length = 34 ∧
    ((statusLayout s)[11]? = some 0xFF#8 ↔ (statusLayout s)[0]? = some 0x00#8) ∧
    ((((statusLayout s).drop 18).take 8).map BitVec.toNat).sum = storeCount s ∧
    ∃ store opened expired waiting : Byte,
      (statusLayout s)[26]? = some store ∧ (statusLayout s)[27]? = some opened ∧
      (statusLayout s)[28]? = some expired ∧ (statusLayout s)[30]? = some waiting ∧
      store.toNat = storeCount s ∧ opened.toNat = openCount s ∧ expired.toNat = expiredCount s ∧
      waiting.toNat = s.returnQueue.length ∧
      opened.toNat + expired.toNat ≤ 32 ∧ waiting.toNat + store.toNat + opened.toNat ≤ 96

/-- WRITE_SETTINGS with every field in range: BAD_STATE under the two conditions of R158, and otherwise the eight
settings stored with the effects of R159 and nothing else changed (R20, R39), ALERT_N following them (R147). -/
def Obligations.SettingsWritten : Prop :=
  ∀ (s : State) (p m : Byte) (g : Half) (d a k th e : Byte) (n : Settings),
    settings? p m g d a k th e = some n → LinkFree (.writeSettings p m g d a k th e) s →
    (((s.seq.state ≠ .stopped ∧ (n.prescale ≠ s.settings.prescale ∨ n.syncMode ≠ s.settings.syncMode)) ∨
        (s.settings.alternation = false ∧ n.alternation = true ∧ s.banks.pendingSwitch ≠ none)) →
      exec (.writeSettings p m g d a k th e) s = .next (withReply .badState [] s)) ∧
    (¬ ((s.seq.state ≠ .stopped ∧ (n.prescale ≠ s.settings.prescale ∨ n.syncMode ≠ s.settings.syncMode)) ∨
        (s.settings.alternation = false ∧ n.alternation = true ∧ s.banks.pendingSwitch ≠ none)) →
      ∃ t, exec (.writeSettings p m g d a k th e) s = .next t ∧ t = withReply .ok [] { s with
          settings := n
          divider := if n.prescale = s.settings.prescale then s.divider else 0
          banks := { s.banks with framesInBank :=
            if n.alternation = true ∧ (s.settings.alternation = false ∨ n.exponent ≠ s.settings.exponent) then 0
            else s.banks.framesInBank } } ∧
        (alertAsserted t = true ↔ AlertHolds n s.incidents))

/-- The write commands and COPY_BANK with their arguments in range: BANK_ACTIVE on the ACTIVE bank; otherwise the
values stored, the bank EDITING, and nothing else changed (R26 to R29, R31). -/
def Obligations.BankWritten : Prop :=
  ∀ (s : State) (c : LinkCommand) (b : BankId) (f : Schedule → Schedule), LinkFree c s →
    ((∃ bb nb ls n, c = .writePhases bb nb ls ∧ phases? bb nb = some (b, n) ∧
        f = fun x => { x with phaseCount := n, lengths := ls }) ∨
     (∃ bb pb e w base fr ql hl p r, c = .writePartition bb pb e w base fr ql hl ∧
        bankPartition? bb pb = some (b, p) ∧ record? e w base fr ql hl = some r ∧
        f = fun x => { x with parts := x.parts.set p.val r p.isLt }) ∨
     (∃ bb fb nb es first entries, c = .writeMap bb fb nb es ∧ mapWrite? bb fb nb es = some (b, first, entries) ∧
        f = fun x => { x with map := Vector.ofFn fun r =>
          if first ≤ r.val ∧ r.val < first + entries.length then (entries[r.val - first]?).getD none
          else x.map[r] }) ∨
     (∃ sb db src, c = .copyBank sb db ∧ copy? sb db = some (src, b) ∧
        f = fun _ => (s.banks.get src).contents)) →
    ((s.banks.get b).state = .active → exec c.row s = .next (withReply .bankActive [] s)) ∧
    ((s.banks.get b).state ≠ .active →
      ∃ t, exec c.row s = .next (withReply .ok [] t) ∧ t = { s with banks := t.banks } ∧
        t.banks.get b = { contents := f (s.banks.get b).contents, state := .editing } ∧
        t.banks.get b.other = s.banks.get b.other ∧ t.banks.pendingSwitch = s.banks.pendingSwitch ∧
        t.banks.framesInBank = s.banks.framesInBank)

/-- CLOSE_BANK (R32): a number other than 0 or 1 is BAD_ARGUMENT; READY and ACTIVE banks are left with their
statuses; an EDITING bank becomes READY when no check of R33 fails, and otherwise stays as it is, CHECK_FAILED being
replied with the code of the first failure and its item, FFh for checks 1 and 5. -/
def Obligations.BankClosed : Prop :=
  ∀ (s : State) (bb : Byte), LinkFree (.closeBank bb) s →
    (0x02#8 ≤ bb → exec (.closeBank bb) s = .next (withReply .badArgument [] s)) ∧
    (∀ b, (bb = 0x00#8 ∧ b = .bank0) ∨ (bb = 0x01#8 ∧ b = .bank1) →
      ((s.banks.get b).state = .active → exec (.closeBank bb) s = .next (withReply .bankActive [] s)) ∧
      ((s.banks.get b).state = .ready → exec (.closeBank bb) s = .next (withReply .alreadyReady [] s)) ∧
      ((s.banks.get b).state = .editing →
        ((∀ code item, ¬ CheckFails (s.banks.get b).contents code item) →
          ∃ t, exec (.closeBank bb) s = .next (withReply .ok [] t) ∧ t = { s with banks := t.banks } ∧
            t.banks.get b = { s.banks.get b with state := .ready } ∧
            t.banks.get b.other = s.banks.get b.other ∧ t.banks.pendingSwitch = s.banks.pendingSwitch ∧
            t.banks.framesInBank = s.banks.framesInBank) ∧
        (∀ code item, FirstFailure (s.banks.get b).contents code item →
          exec (.closeBank bb) s = .next (withReply .checkFailed
            [BitVec.ofNat 8 code, if code = 1 ∨ code = 5 then 0xFF#8 else BitVec.ofNat 8 item] s))))

/-- REQUEST_SWITCH: a target other than 0 or 1 is BAD_ARGUMENT, and then the first case of the table of R37 that
applies. A start makes the target ACTIVE and sets the frame number to FFFFFFFFh, so that in FREE frame 0 begins with a
frames-in-bank count of 1, and in FOLLOW the sequencer waits in GAP with the count still 0 (R5). -/
def Obligations.SwitchRequested : Prop :=
  ∀ (s : State) (bb : Byte), LinkFree (.requestSwitch bb) s →
    (0x02#8 ≤ bb → exec (.requestSwitch bb) s = .next (withReply .badArgument [] s)) ∧
    (∀ b, (bb = 0x00#8 ∧ b = .bank0) ∨ (bb = 0x01#8 ∧ b = .bank1) →
      (s.settings.alternation = true → exec (.requestSwitch bb) s = .next (withReply .alternating [] s)) ∧
      (s.settings.alternation = false →
        ((s.banks.get b).state = .active → exec (.requestSwitch bb) s = .next (withReply .alreadyActive [] s)) ∧
        ((s.banks.get b).state ≠ .active →
          (s.banks.pendingSwitch ≠ none →
            exec (.requestSwitch bb) s = .next (withReply .switchPending [] s)) ∧
          (s.banks.pendingSwitch = none →
            (s.seq.state = .stopped → (s.banks.get b).state = .editing →
              exec (.requestSwitch bb) s = .next (withReply .bankNotReady [] s)) ∧
            (s.seq.state ≠ .stopped → exec (.requestSwitch bb) s =
              .next (withReply .accepted [] { s with banks := { s.banks with pendingSwitch := some b } })) ∧
            (s.seq.state = .stopped → (s.banks.get b).state = .ready → ∃ t u,
              exec (.requestSwitch bb) s = .next (withReply .ok [] t) ∧
              u = { s with
                banks := match b with
                  | .bank0 => { s.banks with bank0 := { s.banks.bank0 with state := .active } }
                  | .bank1 => { s.banks with bank1 := { s.banks.bank1 with state := .active } }
                seq := { s.seq with frame := 0xFFFFFFFF#32, firstPending := true } } ∧
              (s.settings.syncMode = .free → t = frameStart .timed u ∧ FrameBegun .timed u t ∧ t.seq.frame = 0 ∧
                t.banks.framesInBank = 1 ∧ (t.banks.get b).state = .active) ∧
              (s.settings.syncMode = .follow → (Inv s → t.banks.framesInBank = 0) ∧ t = { u with
                seq := { u.seq with state := .gap, phase := none, ticksLeft := 0, gapElapsed := 0
                                    guardInForce := s.settings.syncGuard.toNat } }))))))

/-- CANCEL_SWITCH: a pending switch is cleared with OK, the banks keeping state and contents, and the next frame
start then makes no attempt unless alternation calls for one; with none pending the reply is NOTHING_PENDING and
nothing changes (R38). -/
def Obligations.SwitchCancelled : Prop :=
  ∀ s : State, LinkFree .cancelSwitch s →
    (s.banks.pendingSwitch = none → exec .cancelSwitch s = .next (withReply .nothingPending [] s)) ∧
    (s.banks.pendingSwitch ≠ none → ∃ t,
      exec .cancelSwitch s = .next (withReply .ok [] t) ∧
      t = { s with banks := { s.banks with pendingSwitch := none } } ∧
      (t.settings.alternation = false → switchDue t = false) ∧
      (Inv s → t.settings.alternation = false))

/-- SET_MODE (R65): a target out of range is BAD_ARGUMENT; while STOPPED, STRAIGHT is OK and OBSERVE and ENFORCE are
MODE_REFUSED, and nothing changes. While the sequencer runs the target is recorded and replaces an earlier one,
the mode in force and the drain target unchanged (R66). -/
def Obligations.ModeRequested : Prop :=
  ∀ (s : State) (mb : Byte), LinkFree (.setMode mb) s →
    (0x03#8 ≤ mb → exec (.setMode mb) s = .next (withReply .badArgument [] s)) ∧
    (s.seq.state = .stopped →
      (mb = 0x00#8 → exec (.setMode mb) s = .next (withReply .ok [] s)) ∧
      (mb = 0x01#8 ∨ mb = 0x02#8 → exec (.setMode mb) s = .next (withReply .modeRefused [] s))) ∧
    (s.seq.state ≠ .stopped → ∀ m, (mb = 0x00#8 ∧ m = .straight) ∨ (mb = 0x01#8 ∧ m = .observe) ∨
        (mb = 0x02#8 ∧ m = .enforce) →
      exec (.setMode mb) s =
        .next (withReply .accepted [] { s with mode := { s.mode with requested := some m } }))

/-- STOP_SCHEDULE: BAD_STATE unless STRAIGHT is in force with no request; otherwise OK, and where the sequencer runs
it becomes STOPPED with frame number and cause kept, the ACTIVE bank READY, no switch pending, and the credit
figures 0 with the accumulators kept (R21, R40, R58). That the mark of a first frame start is no while STOPPED is
the model's choice (log 18). -/
def Obligations.ScheduleStopped : Prop :=
  ∀ s : State, LinkFree .stopSchedule s →
    (s.mode.inForce ≠ .straight ∨ s.mode.requested ≠ none →
      exec .stopSchedule s = .next (withReply .badState [] s)) ∧
    (s.mode.inForce = .straight → s.mode.requested = none →
      (s.seq.state = .stopped → exec .stopSchedule s = .next (withReply .ok [] s)) ∧
      (s.seq.state ≠ .stopped → ∃ t,
        exec .stopSchedule s = .next (withReply .ok [] t) ∧
        t = { s with seq := t.seq, banks := t.banks, credit := t.credit } ∧
        t.seq = { s.seq with state := .stopped, phase := none, ticksLeft := 0, gapElapsed := 0
                             guardInForce := 0, firstPending := false } ∧
        t.banks.pendingSwitch = none ∧ t.banks.framesInBank = 0 ∧
        (∀ b, t.banks.get b = { s.banks.get b with
          state := if (s.banks.get b).state = .active then .ready else (s.banks.get b).state }) ∧
        (∀ p : Partition,
          t.credit[p] = { granted := 0, remaining := 0, charged := 0, fraction := s.credit[p].fraction })))

/-- TAKE_INCIDENT: the oldest record leaves and is returned in the layout of 11.5 with the lost count, or QUEUE_EMPTY
is replied with it; the lost count becomes 0 either way and nothing else changes (R144), and ALERT_N is judged by the
records left (R146). That the newest record's frame stands when the queue empties is the model's choice (log 17). -/
def Obligations.IncidentTaken : Prop :=
  ∀ s : State, LinkFree .takeIncident s → ∃ t, exec .takeIncident s = .next t ∧
    (s.incidents.queue = [] →
      t = withReply .queueEmpty (field 1 s.incidents.lost)
        { s with incidents := { s.incidents with lost := 0 } }) ∧
    (∀ r rest, s.incidents.queue = r :: rest →
      (incidentLayout r).length = 19 ∧
      t = withReply .ok (incidentLayout r ++ field 1 s.incidents.lost)
        { s with incidents := { s.incidents with queue := rest, lost := 0 } }) ∧
    (alertAsserted t = true ↔
      s.settings.alertEnable = true ∧ s.settings.alertThreshold.val ≤ s.incidents.queue.length - 1)

/-- CLEAR_STATISTICS sets the forty counters to 0 and leaves the credit items (R57). FLUSH_QUARANTINE frees every
EXPIRED entry, leaves OPEN entries, and replies with the number freed (R131). -/
def Obligations.CountersClearedAndQuarantineFlushed : Prop :=
  ∀ s : State,
    (LinkFree .clearStatistics s → exec .clearStatistics s = .next (withReply .ok [] { s with
      stats := Vector.replicate 8
        { released := 0, beatsCharged := 0, refused := 0, holdExpired := 0, timedOut := 0 } })) ∧
    (LinkFree .flushQuarantine s → exec .flushQuarantine s =
      .next (withReply .ok [BitVec.ofNat 8 (expiredCount s)] { s with
        ott := Vector.ofFn fun i => match s.ott[i] with
          | .expired _ => .free
          | .opened t n => .opened t n
          | .free => .free }))

/-- RESET_REGULATOR: the table of R160, block by block, with no incident, ALERT_N deasserted, and OK with length 0 in
the Reply Register once the execution ends, which the next transaction shifts out as 00h 00h D7h and FFh (R164). That
the mark of a first frame start is no is the model's choice (log 18). -/
def Obligations.RegulatorReset : Prop :=
  ∀ s : State, LinkFree .resetRegulator s →
    ∃ t u, exec .resetRegulator s = .next t ∧
      t = { s with
        frameOutLeft := 0, seq := t.seq, banks := t.banks, credit := t.credit, stats := t.stats, mode := t.mode
        returnQueue := t.returnQueue, hold := t.hold, pointer := 7, incidents := t.incidents, link := t.link } ∧
      t.seq = { s.seq with state := .stopped, phase := none, ticksLeft := 0, gapElapsed := 0, guardInForce := 0
                           firstPending := false } ∧
      t.banks.pendingSwitch = none ∧ t.banks.framesInBank = 0 ∧
      (∀ b, t.banks.get b = { s.banks.get b with
        state := if (s.banks.get b).state = .active then .ready else (s.banks.get b).state }) ∧
      (∀ p : Partition, t.credit[p] = { granted := 0, remaining := 0, charged := 0, fraction := 0 } ∧
        t.stats[p] = { released := 0, beatsCharged := 0, refused := 0, holdExpired := 0, timedOut := 0 } ∧
        t.hold[p] = []) ∧
      t.mode = { inForce := .straight, requested := none, drainTarget := none } ∧
      t.returnQueue = s.returnQueue ++ (List.finRange 8).flatMap (fun p => s.hold[p].map fun e =>
        { requester := e.request.requester, tag := e.request.tag, status := .aborted, data := [] }) ∧
      t.incidents = { queue := [], nextSeq := 0, lost := 0, newestFrame := none } ∧
      (1 ≤ s.settings.alertThreshold.val → alertAsserted t = false) ∧
      exec .endOfExecution t = .next u ∧
      u = { t with link := { s.link with state := .idle, reply := { status := .ok, bytes := [] } } } ∧
      ∃ v, exec .csNAssertion u = .next v ∧
        ∀ k, misoByte v k = some (([0x00#8, 0x00#8, 0xD7#8] : List Byte).getD k 0xFF#8)

/-! ## Pin reset, incidents, invariants -/

/-- PIN_RESET returns every block to its initial value, whatever the state (R2, R4, R24, R34, R58, R60, R87, R91,
R109, R122, R134, R137, R149, R158), with FRAME_OUT low and ALERT_N deasserted (R14, R146), and keeps what is outside
the part (log 22); that the mark of a first frame start is no is the model's choice (log 18). RST_N_DEASSERTION then
releases the part, no level being an event, and a response still presented is taken as an arrival (R165; under
DRST_N, log 13); on a part not in reset it changes nothing (log 7). -/
def Obligations.PinResetAndItsEnd : Prop :=
  (∀ s : State, ∃ t, exec .pinReset s = .next t ∧
    t.pins = { s.pins with rst := true } ∧ t.divider = 0 ∧ t.frameOutLeft = 0 ∧
    t.seq = { state := .stopped, frame := 0, phase := none, ticksLeft := 0, gapElapsed := 0, guardInForce := 0
              cause := none, firstPending := false } ∧
    t.settings = { prescale := 49, syncMode := .free, syncGuard := 0, deadline := 63, alternation := false
                   exponent := 0, alertThreshold := 1, alertEnable := true } ∧
    (∀ b, (t.banks.get b).state = .editing ∧ (t.banks.get b).contents.phaseCount = 0 ∧
      (∀ p : Phase, (t.banks.get b).contents.lengths[p] = 0) ∧
      (∀ p : Partition, (t.banks.get b).contents.parts[p] =
        { enabled := false, window := 0, budgetBase := 0, budgetFraction := 0, queueLimit := 0, holdLimit := 0 }) ∧
      (∀ r : Requester, (t.banks.get b).contents.map[r] = none)) ∧
    t.banks.pendingSwitch = none ∧ t.banks.framesInBank = 0 ∧
    (∀ p : Partition, t.credit[p] = { granted := 0, remaining := 0, charged := 0, fraction := 0 } ∧
      t.stats[p] = { released := 0, beatsCharged := 0, refused := 0, holdExpired := 0, timedOut := 0 } ∧
      t.hold[p] = []) ∧
    t.mode = { inForce := .straight, requested := none, drainTarget := none } ∧
    t.presented = s.presented ∧ t.returnQueue = [] ∧ t.pointer = 7 ∧ t.offer = none ∧
    (∀ i : OttIndex, t.ott[i] = .free) ∧ t.memPresented = s.memPresented ∧
    t.incidents = { queue := [], nextSeq := 0, lost := 0, newestFrame := none } ∧
    t.link = { state := .idle, buffer := [], bits := [], reply := { status := .ok, bytes := [] } } ∧
    frameOutHigh t = false ∧ alertAsserted t = false) ∧
  (∀ s : State, quiet s = true →
    (s.pins.rst = false → exec .rstNDeassertion s = .next s) ∧
    (s.pins.rst = true → s.memPresented = none → exec .rstNDeassertion s =
      .next { s with pins := { s.pins with rst := false }, divider := 0 }) ∧
    (∀ r, s.pins.rst = true → s.memPresented = some r → exec .rstNDeassertion s =
      exec (.responseArrival r)
        { s with pins := { s.pins with rst := false }, divider := 0, memPresented := none }))

/-- Recording an incident does exactly one of three things: it coalesces with a newest record of the same kind,
partition, requester and frame, raising its repeat count alone; else it is added below sixteen records; else it
raises the lost count alone (R141 to R143). ALERT_N is asserted while enabled with the threshold reached or while
incidents are lost (R146): a coalescing leaves the line, an addition that reaches the threshold asserts it, and a
loss asserts it. -/
def Obligations.IncidentCoalescedAddedOrLost : Prop :=
  (∀ (u : IncidentUnit) (i : Incident) (frame : Option Word32) (phase : Option ShownPhase),
    (∀ old n, u.queue = old ++ [n] → n.kind = i.kind → n.partition = i.partition → n.requester = i.requester →
      u.newestFrame = frame →
      u.take i frame phase =
        { u with queue := old ++ [{ n with repeatCount := min (n.repeatCount + 1) 65535 }] }) ∧
    (¬ Coalesces u i frame →
      (u.queue.length < 16 → u.take i frame phase = { u with
        queue := u.queue ++ [{ seq := u.nextSeq, kind := i.kind, frame := frame.map fun f => f.extractLsb' 0 16
                               phase := phase, partition := i.partition, requester := i.requester, tag := i.tag
                               addr := i.addr, repeatCount := 1, detail := i.detail }]
        nextSeq := u.nextSeq + 1, newestFrame := frame }) ∧
      (16 ≤ u.queue.length → u.take i frame phase = { u with lost := min (u.lost + 1) 255 }))) ∧
  (∀ (s : State) (i : Incident),
    (alertAsserted s = true ↔ AlertHolds s.settings s.incidents) ∧
    (Coalesces s.incidents i (incidentFrame s) → alertAsserted (recorded i s) = alertAsserted s) ∧
    (¬ Coalesces s.incidents i (incidentFrame s) →
      (s.incidents.queue.length < 16 → (alertAsserted (recorded i s) = true ↔
        (s.settings.alertEnable = true ∧ s.settings.alertThreshold.val ≤ s.incidents.queue.length + 1) ∨
          0 < s.incidents.lost)) ∧
      (16 ≤ s.incidents.queue.length → alertAsserted (recorded i s) = true)))

/-- The charged beats plus the remaining credit equal the granted credit at all times, and each stays in its range
(R52, R47). -/
def Obligations.CreditSumKept : Prop :=
  ∀ s t : State, Inv s → step s = .next t → CreditLaw t

/-- The Return Queue count plus the live count never exceeds 96 (R84). -/
def Obligations.ReturnBoundKept : Prop :=
  ∀ s t : State, Inv s → step s = .next t → ReturnLaw t

/-- No two live transactions carry the same requester and tag (R77). -/
def Obligations.LiveTagsStayUnique : Prop :=
  ∀ s t : State, Inv s → step s = .next t → TagLaw t

/-- The laws of the manual hold of the state after reset. That its inputs are quiet and no first frame start waits
is the model's choice (log 1, log 18). -/
def Obligations.LawsHoldAtReset : Prop := Inv State.reset

/-- Every step keeps the laws of the manual. -/
def Obligations.EveryStepKeepsLaws : Prop :=
  ∀ s t : State, Inv s → step s = .next t → Inv t
end

