-- ==== Sys2Proof/Laws/State.lean ====
section
/-! SUPPORT. The frame of every shared operation, field by field: what each leaves as it was. -/

namespace Sys2Proof.Machine

/-- A fold whose steps keep a field keeps it. -/
theorem foldl_field {α β : Type} (g : State → β) {f : State → α → State} (h : ∀ s a, g (f s a) = g s)
    (l : List α) (s : State) : g (l.foldl f s) = g s := by
  induction l generalizing s with
  | nil => rfl
  | cons a l ih => rw [List.foldl_cons, ih, h]

/-! ## record -/

@[simp] theorem record_pins (i : Incident) (s : State) : (record i s).pins = s.pins := rfl
@[simp] theorem record_divider (i : Incident) (s : State) : (record i s).divider = s.divider := rfl
@[simp] theorem record_frameOutLeft (i : Incident) (s : State) : (record i s).frameOutLeft = s.frameOutLeft := rfl
@[simp] theorem record_seq (i : Incident) (s : State) : (record i s).seq = s.seq := rfl
@[simp] theorem record_settings (i : Incident) (s : State) : (record i s).settings = s.settings := rfl
@[simp] theorem record_banks (i : Incident) (s : State) : (record i s).banks = s.banks := rfl
@[simp] theorem record_credit (i : Incident) (s : State) : (record i s).credit = s.credit := rfl
@[simp] theorem record_stats (i : Incident) (s : State) : (record i s).stats = s.stats := rfl
@[simp] theorem record_mode (i : Incident) (s : State) : (record i s).mode = s.mode := rfl
@[simp] theorem record_presented (i : Incident) (s : State) : (record i s).presented = s.presented := rfl
@[simp] theorem record_returnQueue (i : Incident) (s : State) : (record i s).returnQueue = s.returnQueue := rfl
@[simp] theorem record_hold (i : Incident) (s : State) : (record i s).hold = s.hold := rfl
@[simp] theorem record_pointer (i : Incident) (s : State) : (record i s).pointer = s.pointer := rfl
@[simp] theorem record_offer (i : Incident) (s : State) : (record i s).offer = s.offer := rfl
@[simp] theorem record_ott (i : Incident) (s : State) : (record i s).ott = s.ott := rfl
@[simp] theorem record_memPresented (i : Incident) (s : State) : (record i s).memPresented = s.memPresented := rfl
@[simp] theorem record_link (i : Incident) (s : State) : (record i s).link = s.link := rfl
@[simp] theorem record_freeIndex (i : Incident) (s : State) : (record i s).freeIndex = s.freeIndex := rfl
@[simp] theorem record_pending (i : Incident) (s : State) : (record i s).pending = s.pending := rfl

/-! ## respond -/

@[simp] theorem respond_pins (r : UpResponse) (s : State) : (respond r s).pins = s.pins := rfl
@[simp] theorem respond_divider (r : UpResponse) (s : State) : (respond r s).divider = s.divider := rfl
@[simp] theorem respond_frameOutLeft (r : UpResponse) (s : State) : (respond r s).frameOutLeft = s.frameOutLeft := rfl
@[simp] theorem respond_seq (r : UpResponse) (s : State) : (respond r s).seq = s.seq := rfl
@[simp] theorem respond_settings (r : UpResponse) (s : State) : (respond r s).settings = s.settings := rfl
@[simp] theorem respond_banks (r : UpResponse) (s : State) : (respond r s).banks = s.banks := rfl
@[simp] theorem respond_credit (r : UpResponse) (s : State) : (respond r s).credit = s.credit := rfl
@[simp] theorem respond_stats (r : UpResponse) (s : State) : (respond r s).stats = s.stats := rfl
@[simp] theorem respond_mode (r : UpResponse) (s : State) : (respond r s).mode = s.mode := rfl
@[simp] theorem respond_presented (r : UpResponse) (s : State) : (respond r s).presented = s.presented := rfl
@[simp] theorem respond_hold (r : UpResponse) (s : State) : (respond r s).hold = s.hold := rfl
@[simp] theorem respond_pointer (r : UpResponse) (s : State) : (respond r s).pointer = s.pointer := rfl
@[simp] theorem respond_offer (r : UpResponse) (s : State) : (respond r s).offer = s.offer := rfl
@[simp] theorem respond_ott (r : UpResponse) (s : State) : (respond r s).ott = s.ott := rfl
@[simp] theorem respond_memPresented (r : UpResponse) (s : State) : (respond r s).memPresented = s.memPresented := rfl
@[simp] theorem respond_incidents (r : UpResponse) (s : State) : (respond r s).incidents = s.incidents := rfl
@[simp] theorem respond_link (r : UpResponse) (s : State) : (respond r s).link = s.link := rfl
@[simp] theorem respond_freeIndex (r : UpResponse) (s : State) : (respond r s).freeIndex = s.freeIndex := rfl
@[simp] theorem respond_pending (r : UpResponse) (s : State) : (respond r s).pending = s.pending := rfl

/-! ## charge -/

@[simp] theorem charge_pins (p : Partition) (n : Nat) (s : State) : (charge p n s).pins = s.pins := rfl
@[simp] theorem charge_divider (p : Partition) (n : Nat) (s : State) : (charge p n s).divider = s.divider := rfl
@[simp] theorem charge_frameOutLeft (p : Partition) (n : Nat) (s : State) : (charge p n s).frameOutLeft = s.frameOutLeft := rfl
@[simp] theorem charge_seq (p : Partition) (n : Nat) (s : State) : (charge p n s).seq = s.seq := rfl
@[simp] theorem charge_settings (p : Partition) (n : Nat) (s : State) : (charge p n s).settings = s.settings := rfl
@[simp] theorem charge_banks (p : Partition) (n : Nat) (s : State) : (charge p n s).banks = s.banks := rfl
@[simp] theorem charge_mode (p : Partition) (n : Nat) (s : State) : (charge p n s).mode = s.mode := rfl
@[simp] theorem charge_presented (p : Partition) (n : Nat) (s : State) : (charge p n s).presented = s.presented := rfl
@[simp] theorem charge_returnQueue (p : Partition) (n : Nat) (s : State) : (charge p n s).returnQueue = s.returnQueue := rfl
@[simp] theorem charge_hold (p : Partition) (n : Nat) (s : State) : (charge p n s).hold = s.hold := rfl
@[simp] theorem charge_pointer (p : Partition) (n : Nat) (s : State) : (charge p n s).pointer = s.pointer := rfl
@[simp] theorem charge_offer (p : Partition) (n : Nat) (s : State) : (charge p n s).offer = s.offer := rfl
@[simp] theorem charge_ott (p : Partition) (n : Nat) (s : State) : (charge p n s).ott = s.ott := rfl
@[simp] theorem charge_memPresented (p : Partition) (n : Nat) (s : State) : (charge p n s).memPresented = s.memPresented := rfl
@[simp] theorem charge_incidents (p : Partition) (n : Nat) (s : State) : (charge p n s).incidents = s.incidents := rfl
@[simp] theorem charge_link (p : Partition) (n : Nat) (s : State) : (charge p n s).link = s.link := rfl
@[simp] theorem charge_freeIndex (p : Partition) (n : Nat) (s : State) : (charge p n s).freeIndex = s.freeIndex := rfl
@[simp] theorem charge_pending (p : Partition) (n : Nat) (s : State) : (charge p n s).pending = s.pending := rfl

/-! ## count -/

@[simp] theorem count_pins (f : Stats → Stats) (p : Option Partition) (s : State) : (count f p s).pins = s.pins := rfl
@[simp] theorem count_divider (f : Stats → Stats) (p : Option Partition) (s : State) : (count f p s).divider = s.divider := rfl
@[simp] theorem count_frameOutLeft (f : Stats → Stats) (p : Option Partition) (s : State) : (count f p s).frameOutLeft = s.frameOutLeft := rfl
@[simp] theorem count_seq (f : Stats → Stats) (p : Option Partition) (s : State) : (count f p s).seq = s.seq := rfl
@[simp] theorem count_settings (f : Stats → Stats) (p : Option Partition) (s : State) : (count f p s).settings = s.settings := rfl
@[simp] theorem count_banks (f : Stats → Stats) (p : Option Partition) (s : State) : (count f p s).banks = s.banks := rfl
@[simp] theorem count_credit (f : Stats → Stats) (p : Option Partition) (s : State) : (count f p s).credit = s.credit := rfl
@[simp] theorem count_mode (f : Stats → Stats) (p : Option Partition) (s : State) : (count f p s).mode = s.mode := rfl
@[simp] theorem count_presented (f : Stats → Stats) (p : Option Partition) (s : State) : (count f p s).presented = s.presented := rfl
@[simp] theorem count_returnQueue (f : Stats → Stats) (p : Option Partition) (s : State) : (count f p s).returnQueue = s.returnQueue := rfl
@[simp] theorem count_hold (f : Stats → Stats) (p : Option Partition) (s : State) : (count f p s).hold = s.hold := rfl
@[simp] theorem count_pointer (f : Stats → Stats) (p : Option Partition) (s : State) : (count f p s).pointer = s.pointer := rfl
@[simp] theorem count_offer (f : Stats → Stats) (p : Option Partition) (s : State) : (count f p s).offer = s.offer := rfl
@[simp] theorem count_ott (f : Stats → Stats) (p : Option Partition) (s : State) : (count f p s).ott = s.ott := rfl
@[simp] theorem count_memPresented (f : Stats → Stats) (p : Option Partition) (s : State) : (count f p s).memPresented = s.memPresented := rfl
@[simp] theorem count_incidents (f : Stats → Stats) (p : Option Partition) (s : State) : (count f p s).incidents = s.incidents := rfl
@[simp] theorem count_link (f : Stats → Stats) (p : Option Partition) (s : State) : (count f p s).link = s.link := rfl
@[simp] theorem count_freeIndex (f : Stats → Stats) (p : Option Partition) (s : State) : (count f p s).freeIndex = s.freeIndex := rfl
@[simp] theorem count_pending (f : Stats → Stats) (p : Option Partition) (s : State) : (count f p s).pending = s.pending := rfl

/-! ## openAt -/

@[simp] theorem openAt_pins (i : OttIndex) (q : Taken) (p : Option Partition) (s : State) : (openAt i q p s).pins = s.pins := rfl
@[simp] theorem openAt_divider (i : OttIndex) (q : Taken) (p : Option Partition) (s : State) : (openAt i q p s).divider = s.divider := rfl
@[simp] theorem openAt_frameOutLeft (i : OttIndex) (q : Taken) (p : Option Partition) (s : State) : (openAt i q p s).frameOutLeft = s.frameOutLeft := rfl
@[simp] theorem openAt_seq (i : OttIndex) (q : Taken) (p : Option Partition) (s : State) : (openAt i q p s).seq = s.seq := rfl
@[simp] theorem openAt_settings (i : OttIndex) (q : Taken) (p : Option Partition) (s : State) : (openAt i q p s).settings = s.settings := rfl
@[simp] theorem openAt_banks (i : OttIndex) (q : Taken) (p : Option Partition) (s : State) : (openAt i q p s).banks = s.banks := rfl
@[simp] theorem openAt_credit (i : OttIndex) (q : Taken) (p : Option Partition) (s : State) : (openAt i q p s).credit = s.credit := rfl
@[simp] theorem openAt_stats (i : OttIndex) (q : Taken) (p : Option Partition) (s : State) : (openAt i q p s).stats = s.stats := rfl
@[simp] theorem openAt_mode (i : OttIndex) (q : Taken) (p : Option Partition) (s : State) : (openAt i q p s).mode = s.mode := rfl
@[simp] theorem openAt_presented (i : OttIndex) (q : Taken) (p : Option Partition) (s : State) : (openAt i q p s).presented = s.presented := rfl
@[simp] theorem openAt_returnQueue (i : OttIndex) (q : Taken) (p : Option Partition) (s : State) : (openAt i q p s).returnQueue = s.returnQueue := rfl
@[simp] theorem openAt_hold (i : OttIndex) (q : Taken) (p : Option Partition) (s : State) : (openAt i q p s).hold = s.hold := rfl
@[simp] theorem openAt_pointer (i : OttIndex) (q : Taken) (p : Option Partition) (s : State) : (openAt i q p s).pointer = s.pointer := rfl
@[simp] theorem openAt_memPresented (i : OttIndex) (q : Taken) (p : Option Partition) (s : State) : (openAt i q p s).memPresented = s.memPresented := rfl
@[simp] theorem openAt_incidents (i : OttIndex) (q : Taken) (p : Option Partition) (s : State) : (openAt i q p s).incidents = s.incidents := rfl
@[simp] theorem openAt_link (i : OttIndex) (q : Taken) (p : Option Partition) (s : State) : (openAt i q p s).link = s.link := rfl
@[simp] theorem openAt_freeIndex (i : OttIndex) (q : Taken) (p : Option Partition) (s : State) : (openAt i q p s).freeIndex = s.freeIndex := rfl
@[simp] theorem openAt_pending (i : OttIndex) (q : Taken) (p : Option Partition) (s : State) : (openAt i q p s).pending = s.pending := rfl

/-! ## openEntry -/

@[simp] theorem openEntry_pins (q : Taken) (p : Option Partition) (s : State) : (openEntry q p s).pins = s.pins := by unfold openEntry; split <;> rfl
@[simp] theorem openEntry_divider (q : Taken) (p : Option Partition) (s : State) : (openEntry q p s).divider = s.divider := by unfold openEntry; split <;> rfl
@[simp] theorem openEntry_frameOutLeft (q : Taken) (p : Option Partition) (s : State) : (openEntry q p s).frameOutLeft = s.frameOutLeft := by unfold openEntry; split <;> rfl
@[simp] theorem openEntry_seq (q : Taken) (p : Option Partition) (s : State) : (openEntry q p s).seq = s.seq := by unfold openEntry; split <;> rfl
@[simp] theorem openEntry_settings (q : Taken) (p : Option Partition) (s : State) : (openEntry q p s).settings = s.settings := by unfold openEntry; split <;> rfl
@[simp] theorem openEntry_banks (q : Taken) (p : Option Partition) (s : State) : (openEntry q p s).banks = s.banks := by unfold openEntry; split <;> rfl
@[simp] theorem openEntry_credit (q : Taken) (p : Option Partition) (s : State) : (openEntry q p s).credit = s.credit := by unfold openEntry; split <;> rfl
@[simp] theorem openEntry_stats (q : Taken) (p : Option Partition) (s : State) : (openEntry q p s).stats = s.stats := by unfold openEntry; split <;> rfl
@[simp] theorem openEntry_mode (q : Taken) (p : Option Partition) (s : State) : (openEntry q p s).mode = s.mode := by unfold openEntry; split <;> rfl
@[simp] theorem openEntry_presented (q : Taken) (p : Option Partition) (s : State) : (openEntry q p s).presented = s.presented := by unfold openEntry; split <;> rfl
@[simp] theorem openEntry_returnQueue (q : Taken) (p : Option Partition) (s : State) : (openEntry q p s).returnQueue = s.returnQueue := by unfold openEntry; split <;> rfl
@[simp] theorem openEntry_hold (q : Taken) (p : Option Partition) (s : State) : (openEntry q p s).hold = s.hold := by unfold openEntry; split <;> rfl
@[simp] theorem openEntry_pointer (q : Taken) (p : Option Partition) (s : State) : (openEntry q p s).pointer = s.pointer := by unfold openEntry; split <;> rfl
@[simp] theorem openEntry_memPresented (q : Taken) (p : Option Partition) (s : State) : (openEntry q p s).memPresented = s.memPresented := by unfold openEntry; split <;> rfl
@[simp] theorem openEntry_incidents (q : Taken) (p : Option Partition) (s : State) : (openEntry q p s).incidents = s.incidents := by unfold openEntry; split <;> rfl
@[simp] theorem openEntry_link (q : Taken) (p : Option Partition) (s : State) : (openEntry q p s).link = s.link := by unfold openEntry; split <;> rfl
@[simp] theorem openEntry_freeIndex (q : Taken) (p : Option Partition) (s : State) : (openEntry q p s).freeIndex = s.freeIndex := by unfold openEntry; split <;> rfl
@[simp] theorem openEntry_pending (q : Taken) (p : Option Partition) (s : State) : (openEntry q p s).pending = s.pending := by unfold openEntry; split <;> rfl

/-! ## changeMode -/

@[simp] theorem changeMode_pins (m : Mode) (t : Option Mode) (s : State) : (changeMode m t s).pins = s.pins := by unfold changeMode; simp only; split <;> rfl
@[simp] theorem changeMode_divider (m : Mode) (t : Option Mode) (s : State) : (changeMode m t s).divider = s.divider := by unfold changeMode; simp only; split <;> rfl
@[simp] theorem changeMode_frameOutLeft (m : Mode) (t : Option Mode) (s : State) : (changeMode m t s).frameOutLeft = s.frameOutLeft := by unfold changeMode; simp only; split <;> rfl
@[simp] theorem changeMode_seq (m : Mode) (t : Option Mode) (s : State) : (changeMode m t s).seq = s.seq := by unfold changeMode; simp only; split <;> rfl
@[simp] theorem changeMode_settings (m : Mode) (t : Option Mode) (s : State) : (changeMode m t s).settings = s.settings := by unfold changeMode; simp only; split <;> rfl
@[simp] theorem changeMode_banks (m : Mode) (t : Option Mode) (s : State) : (changeMode m t s).banks = s.banks := by unfold changeMode; simp only; split <;> rfl
@[simp] theorem changeMode_credit (m : Mode) (t : Option Mode) (s : State) : (changeMode m t s).credit = s.credit := by unfold changeMode; simp only; split <;> rfl
@[simp] theorem changeMode_stats (m : Mode) (t : Option Mode) (s : State) : (changeMode m t s).stats = s.stats := by unfold changeMode; simp only; split <;> rfl
@[simp] theorem changeMode_presented (m : Mode) (t : Option Mode) (s : State) : (changeMode m t s).presented = s.presented := by unfold changeMode; simp only; split <;> rfl
@[simp] theorem changeMode_returnQueue (m : Mode) (t : Option Mode) (s : State) : (changeMode m t s).returnQueue = s.returnQueue := by unfold changeMode; simp only; split <;> rfl
@[simp] theorem changeMode_hold (m : Mode) (t : Option Mode) (s : State) : (changeMode m t s).hold = s.hold := by unfold changeMode; simp only; split <;> rfl
@[simp] theorem changeMode_pointer (m : Mode) (t : Option Mode) (s : State) : (changeMode m t s).pointer = s.pointer := by unfold changeMode; simp only; split <;> rfl
@[simp] theorem changeMode_offer (m : Mode) (t : Option Mode) (s : State) : (changeMode m t s).offer = s.offer := by unfold changeMode; simp only; split <;> rfl
@[simp] theorem changeMode_ott (m : Mode) (t : Option Mode) (s : State) : (changeMode m t s).ott = s.ott := by unfold changeMode; simp only; split <;> rfl
@[simp] theorem changeMode_memPresented (m : Mode) (t : Option Mode) (s : State) : (changeMode m t s).memPresented = s.memPresented := by unfold changeMode; simp only; split <;> rfl
@[simp] theorem changeMode_link (m : Mode) (t : Option Mode) (s : State) : (changeMode m t s).link = s.link := by unfold changeMode; simp only; split <;> rfl
@[simp] theorem changeMode_freeIndex (m : Mode) (t : Option Mode) (s : State) : (changeMode m t s).freeIndex = s.freeIndex := by unfold changeMode; simp only; split <;> rfl
@[simp] theorem changeMode_pending (m : Mode) (t : Option Mode) (s : State) : (changeMode m t s).pending = s.pending := by unfold changeMode; simp only; split <;> rfl

/-! ## completeDrain -/

@[simp] theorem completeDrain_pins (s : State) : (completeDrain s).pins = s.pins := by unfold completeDrain; split <;> simp
@[simp] theorem completeDrain_divider (s : State) : (completeDrain s).divider = s.divider := by unfold completeDrain; split <;> simp
@[simp] theorem completeDrain_frameOutLeft (s : State) : (completeDrain s).frameOutLeft = s.frameOutLeft := by unfold completeDrain; split <;> simp
@[simp] theorem completeDrain_seq (s : State) : (completeDrain s).seq = s.seq := by unfold completeDrain; split <;> simp
@[simp] theorem completeDrain_settings (s : State) : (completeDrain s).settings = s.settings := by unfold completeDrain; split <;> simp
@[simp] theorem completeDrain_banks (s : State) : (completeDrain s).banks = s.banks := by unfold completeDrain; split <;> simp
@[simp] theorem completeDrain_credit (s : State) : (completeDrain s).credit = s.credit := by unfold completeDrain; split <;> simp
@[simp] theorem completeDrain_stats (s : State) : (completeDrain s).stats = s.stats := by unfold completeDrain; split <;> simp
@[simp] theorem completeDrain_presented (s : State) : (completeDrain s).presented = s.presented := by unfold completeDrain; split <;> simp
@[simp] theorem completeDrain_returnQueue (s : State) : (completeDrain s).returnQueue = s.returnQueue := by unfold completeDrain; split <;> simp
@[simp] theorem completeDrain_hold (s : State) : (completeDrain s).hold = s.hold := by unfold completeDrain; split <;> simp
@[simp] theorem completeDrain_pointer (s : State) : (completeDrain s).pointer = s.pointer := by unfold completeDrain; split <;> simp
@[simp] theorem completeDrain_offer (s : State) : (completeDrain s).offer = s.offer := by unfold completeDrain; split <;> simp
@[simp] theorem completeDrain_ott (s : State) : (completeDrain s).ott = s.ott := by unfold completeDrain; split <;> simp
@[simp] theorem completeDrain_memPresented (s : State) : (completeDrain s).memPresented = s.memPresented := by unfold completeDrain; split <;> simp
@[simp] theorem completeDrain_link (s : State) : (completeDrain s).link = s.link := by unfold completeDrain; split <;> simp
@[simp] theorem completeDrain_freeIndex (s : State) : (completeDrain s).freeIndex = s.freeIndex := by unfold completeDrain; split <;> simp
@[simp] theorem completeDrain_pending (s : State) : (completeDrain s).pending = s.pending := by unfold completeDrain; split <;> simp

/-! ## modeReaction -/

@[simp] theorem modeReaction_pins (s : State) : (modeReaction s).pins = s.pins := by unfold modeReaction; split <;> simp
@[simp] theorem modeReaction_divider (s : State) : (modeReaction s).divider = s.divider := by unfold modeReaction; split <;> simp
@[simp] theorem modeReaction_frameOutLeft (s : State) : (modeReaction s).frameOutLeft = s.frameOutLeft := by unfold modeReaction; split <;> simp
@[simp] theorem modeReaction_seq (s : State) : (modeReaction s).seq = s.seq := by unfold modeReaction; split <;> simp
@[simp] theorem modeReaction_settings (s : State) : (modeReaction s).settings = s.settings := by unfold modeReaction; split <;> simp
@[simp] theorem modeReaction_banks (s : State) : (modeReaction s).banks = s.banks := by unfold modeReaction; split <;> simp
@[simp] theorem modeReaction_credit (s : State) : (modeReaction s).credit = s.credit := by unfold modeReaction; split <;> simp
@[simp] theorem modeReaction_stats (s : State) : (modeReaction s).stats = s.stats := by unfold modeReaction; split <;> simp
@[simp] theorem modeReaction_presented (s : State) : (modeReaction s).presented = s.presented := by unfold modeReaction; split <;> simp
@[simp] theorem modeReaction_returnQueue (s : State) : (modeReaction s).returnQueue = s.returnQueue := by unfold modeReaction; split <;> simp
@[simp] theorem modeReaction_hold (s : State) : (modeReaction s).hold = s.hold := by unfold modeReaction; split <;> simp
@[simp] theorem modeReaction_pointer (s : State) : (modeReaction s).pointer = s.pointer := by unfold modeReaction; split <;> simp
@[simp] theorem modeReaction_offer (s : State) : (modeReaction s).offer = s.offer := by unfold modeReaction; split <;> simp
@[simp] theorem modeReaction_ott (s : State) : (modeReaction s).ott = s.ott := by unfold modeReaction; split <;> simp
@[simp] theorem modeReaction_memPresented (s : State) : (modeReaction s).memPresented = s.memPresented := by unfold modeReaction; split <;> simp
@[simp] theorem modeReaction_link (s : State) : (modeReaction s).link = s.link := by unfold modeReaction; split <;> simp
@[simp] theorem modeReaction_freeIndex (s : State) : (modeReaction s).freeIndex = s.freeIndex := by unfold modeReaction; split <;> simp
@[simp] theorem modeReaction_pending (s : State) : (modeReaction s).pending = s.pending := by unfold modeReaction; split <;> simp

/-! ## popHead -/

@[simp] theorem popHead_pins (p : Partition) (s : State) : (popHead p s).pins = s.pins := rfl
@[simp] theorem popHead_divider (p : Partition) (s : State) : (popHead p s).divider = s.divider := rfl
@[simp] theorem popHead_frameOutLeft (p : Partition) (s : State) : (popHead p s).frameOutLeft = s.frameOutLeft := rfl
@[simp] theorem popHead_seq (p : Partition) (s : State) : (popHead p s).seq = s.seq := rfl
@[simp] theorem popHead_settings (p : Partition) (s : State) : (popHead p s).settings = s.settings := rfl
@[simp] theorem popHead_banks (p : Partition) (s : State) : (popHead p s).banks = s.banks := rfl
@[simp] theorem popHead_credit (p : Partition) (s : State) : (popHead p s).credit = s.credit := rfl
@[simp] theorem popHead_stats (p : Partition) (s : State) : (popHead p s).stats = s.stats := rfl
@[simp] theorem popHead_mode (p : Partition) (s : State) : (popHead p s).mode = s.mode := rfl
@[simp] theorem popHead_presented (p : Partition) (s : State) : (popHead p s).presented = s.presented := rfl
@[simp] theorem popHead_returnQueue (p : Partition) (s : State) : (popHead p s).returnQueue = s.returnQueue := rfl
@[simp] theorem popHead_pointer (p : Partition) (s : State) : (popHead p s).pointer = s.pointer := rfl
@[simp] theorem popHead_offer (p : Partition) (s : State) : (popHead p s).offer = s.offer := rfl
@[simp] theorem popHead_ott (p : Partition) (s : State) : (popHead p s).ott = s.ott := rfl
@[simp] theorem popHead_memPresented (p : Partition) (s : State) : (popHead p s).memPresented = s.memPresented := rfl
@[simp] theorem popHead_incidents (p : Partition) (s : State) : (popHead p s).incidents = s.incidents := rfl
@[simp] theorem popHead_link (p : Partition) (s : State) : (popHead p s).link = s.link := rfl
@[simp] theorem popHead_freeIndex (p : Partition) (s : State) : (popHead p s).freeIndex = s.freeIndex := rfl
@[simp] theorem popHead_pending (p : Partition) (s : State) : (popHead p s).pending = s.pending := rfl

/-! ## departExpired -/

@[simp] theorem departExpired_pins (p : Partition) (d : Half) (s : State) (e : HeldEntry) : (departExpired p d s e).pins = s.pins := by simp [departExpired]
@[simp] theorem departExpired_divider (p : Partition) (d : Half) (s : State) (e : HeldEntry) : (departExpired p d s e).divider = s.divider := by simp [departExpired]
@[simp] theorem departExpired_frameOutLeft (p : Partition) (d : Half) (s : State) (e : HeldEntry) : (departExpired p d s e).frameOutLeft = s.frameOutLeft := by simp [departExpired]
@[simp] theorem departExpired_seq (p : Partition) (d : Half) (s : State) (e : HeldEntry) : (departExpired p d s e).seq = s.seq := by simp [departExpired]
@[simp] theorem departExpired_settings (p : Partition) (d : Half) (s : State) (e : HeldEntry) : (departExpired p d s e).settings = s.settings := by simp [departExpired]
@[simp] theorem departExpired_banks (p : Partition) (d : Half) (s : State) (e : HeldEntry) : (departExpired p d s e).banks = s.banks := by simp [departExpired]
@[simp] theorem departExpired_credit (p : Partition) (d : Half) (s : State) (e : HeldEntry) : (departExpired p d s e).credit = s.credit := by simp [departExpired]
@[simp] theorem departExpired_presented (p : Partition) (d : Half) (s : State) (e : HeldEntry) : (departExpired p d s e).presented = s.presented := by simp [departExpired]
@[simp] theorem departExpired_pointer (p : Partition) (d : Half) (s : State) (e : HeldEntry) : (departExpired p d s e).pointer = s.pointer := by simp [departExpired]
@[simp] theorem departExpired_offer (p : Partition) (d : Half) (s : State) (e : HeldEntry) : (departExpired p d s e).offer = s.offer := by simp [departExpired]
@[simp] theorem departExpired_ott (p : Partition) (d : Half) (s : State) (e : HeldEntry) : (departExpired p d s e).ott = s.ott := by simp [departExpired]
@[simp] theorem departExpired_memPresented (p : Partition) (d : Half) (s : State) (e : HeldEntry) : (departExpired p d s e).memPresented = s.memPresented := by simp [departExpired]
@[simp] theorem departExpired_link (p : Partition) (d : Half) (s : State) (e : HeldEntry) : (departExpired p d s e).link = s.link := by simp [departExpired]
@[simp] theorem departExpired_freeIndex (p : Partition) (d : Half) (s : State) (e : HeldEntry) : (departExpired p d s e).freeIndex = s.freeIndex := by simp [departExpired]
@[simp] theorem departExpired_pending (p : Partition) (d : Half) (s : State) (e : HeldEntry) : (departExpired p d s e).pending = s.pending := by simp [departExpired]

/-! ## expireQueue -/

@[simp] theorem expireQueue_pins (s : State) (p : Partition) : (expireQueue s p).pins = s.pins := foldl_field State.pins (departExpired_pins p _) _ s
@[simp] theorem expireQueue_divider (s : State) (p : Partition) : (expireQueue s p).divider = s.divider := foldl_field State.divider (departExpired_divider p _) _ s
@[simp] theorem expireQueue_frameOutLeft (s : State) (p : Partition) : (expireQueue s p).frameOutLeft = s.frameOutLeft := foldl_field State.frameOutLeft (departExpired_frameOutLeft p _) _ s
@[simp] theorem expireQueue_seq (s : State) (p : Partition) : (expireQueue s p).seq = s.seq := foldl_field State.seq (departExpired_seq p _) _ s
@[simp] theorem expireQueue_settings (s : State) (p : Partition) : (expireQueue s p).settings = s.settings := foldl_field State.settings (departExpired_settings p _) _ s
@[simp] theorem expireQueue_banks (s : State) (p : Partition) : (expireQueue s p).banks = s.banks := foldl_field State.banks (departExpired_banks p _) _ s
@[simp] theorem expireQueue_credit (s : State) (p : Partition) : (expireQueue s p).credit = s.credit := foldl_field State.credit (departExpired_credit p _) _ s
@[simp] theorem expireQueue_presented (s : State) (p : Partition) : (expireQueue s p).presented = s.presented := foldl_field State.presented (departExpired_presented p _) _ s
@[simp] theorem expireQueue_pointer (s : State) (p : Partition) : (expireQueue s p).pointer = s.pointer := foldl_field State.pointer (departExpired_pointer p _) _ s
@[simp] theorem expireQueue_offer (s : State) (p : Partition) : (expireQueue s p).offer = s.offer := foldl_field State.offer (departExpired_offer p _) _ s
@[simp] theorem expireQueue_ott (s : State) (p : Partition) : (expireQueue s p).ott = s.ott := foldl_field State.ott (departExpired_ott p _) _ s
@[simp] theorem expireQueue_memPresented (s : State) (p : Partition) : (expireQueue s p).memPresented = s.memPresented := foldl_field State.memPresented (departExpired_memPresented p _) _ s
@[simp] theorem expireQueue_link (s : State) (p : Partition) : (expireQueue s p).link = s.link := foldl_field State.link (departExpired_link p _) _ s
@[simp] theorem expireQueue_freeIndex (s : State) (p : Partition) : (expireQueue s p).freeIndex = s.freeIndex := foldl_field State.freeIndex (departExpired_freeIndex p _) _ s
@[simp] theorem expireQueue_pending (s : State) (p : Partition) : (expireQueue s p).pending = s.pending := foldl_field State.pending (departExpired_pending p _) _ s

/-! ## holdReaction -/

@[simp] theorem holdReaction_pins (s : State) : (holdReaction s).pins = s.pins := foldl_field State.pins expireQueue_pins _ s
@[simp] theorem holdReaction_divider (s : State) : (holdReaction s).divider = s.divider := foldl_field State.divider expireQueue_divider _ s
@[simp] theorem holdReaction_frameOutLeft (s : State) : (holdReaction s).frameOutLeft = s.frameOutLeft := foldl_field State.frameOutLeft expireQueue_frameOutLeft _ s
@[simp] theorem holdReaction_seq (s : State) : (holdReaction s).seq = s.seq := foldl_field State.seq expireQueue_seq _ s
@[simp] theorem holdReaction_settings (s : State) : (holdReaction s).settings = s.settings := foldl_field State.settings expireQueue_settings _ s
@[simp] theorem holdReaction_banks (s : State) : (holdReaction s).banks = s.banks := foldl_field State.banks expireQueue_banks _ s
@[simp] theorem holdReaction_credit (s : State) : (holdReaction s).credit = s.credit := foldl_field State.credit expireQueue_credit _ s
@[simp] theorem holdReaction_presented (s : State) : (holdReaction s).presented = s.presented := foldl_field State.presented expireQueue_presented _ s
@[simp] theorem holdReaction_pointer (s : State) : (holdReaction s).pointer = s.pointer := foldl_field State.pointer expireQueue_pointer _ s
@[simp] theorem holdReaction_offer (s : State) : (holdReaction s).offer = s.offer := foldl_field State.offer expireQueue_offer _ s
@[simp] theorem holdReaction_ott (s : State) : (holdReaction s).ott = s.ott := foldl_field State.ott expireQueue_ott _ s
@[simp] theorem holdReaction_memPresented (s : State) : (holdReaction s).memPresented = s.memPresented := foldl_field State.memPresented expireQueue_memPresented _ s
@[simp] theorem holdReaction_link (s : State) : (holdReaction s).link = s.link := foldl_field State.link expireQueue_link _ s
@[simp] theorem holdReaction_freeIndex (s : State) : (holdReaction s).freeIndex = s.freeIndex := foldl_field State.freeIndex expireQueue_freeIndex _ s
@[simp] theorem holdReaction_pending (s : State) : (holdReaction s).pending = s.pending := foldl_field State.pending expireQueue_pending _ s

/-! ## bankReaction -/

@[simp] theorem bankReaction_pins (b : Bool) (a : SwitchAttempt) (s : State) : (bankReaction b a s).pins = s.pins := by unfold bankReaction; split <;> rfl
@[simp] theorem bankReaction_divider (b : Bool) (a : SwitchAttempt) (s : State) : (bankReaction b a s).divider = s.divider := by unfold bankReaction; split <;> rfl
@[simp] theorem bankReaction_frameOutLeft (b : Bool) (a : SwitchAttempt) (s : State) : (bankReaction b a s).frameOutLeft = s.frameOutLeft := by unfold bankReaction; split <;> rfl
@[simp] theorem bankReaction_seq (b : Bool) (a : SwitchAttempt) (s : State) : (bankReaction b a s).seq = s.seq := by unfold bankReaction; split <;> rfl
@[simp] theorem bankReaction_settings (b : Bool) (a : SwitchAttempt) (s : State) : (bankReaction b a s).settings = s.settings := by unfold bankReaction; split <;> rfl
@[simp] theorem bankReaction_credit (b : Bool) (a : SwitchAttempt) (s : State) : (bankReaction b a s).credit = s.credit := by unfold bankReaction; split <;> rfl
@[simp] theorem bankReaction_stats (b : Bool) (a : SwitchAttempt) (s : State) : (bankReaction b a s).stats = s.stats := by unfold bankReaction; split <;> rfl
@[simp] theorem bankReaction_mode (b : Bool) (a : SwitchAttempt) (s : State) : (bankReaction b a s).mode = s.mode := by unfold bankReaction; split <;> rfl
@[simp] theorem bankReaction_presented (b : Bool) (a : SwitchAttempt) (s : State) : (bankReaction b a s).presented = s.presented := by unfold bankReaction; split <;> rfl
@[simp] theorem bankReaction_returnQueue (b : Bool) (a : SwitchAttempt) (s : State) : (bankReaction b a s).returnQueue = s.returnQueue := by unfold bankReaction; split <;> rfl
@[simp] theorem bankReaction_hold (b : Bool) (a : SwitchAttempt) (s : State) : (bankReaction b a s).hold = s.hold := by unfold bankReaction; split <;> rfl
@[simp] theorem bankReaction_pointer (b : Bool) (a : SwitchAttempt) (s : State) : (bankReaction b a s).pointer = s.pointer := by unfold bankReaction; split <;> rfl
@[simp] theorem bankReaction_offer (b : Bool) (a : SwitchAttempt) (s : State) : (bankReaction b a s).offer = s.offer := by unfold bankReaction; split <;> rfl
@[simp] theorem bankReaction_ott (b : Bool) (a : SwitchAttempt) (s : State) : (bankReaction b a s).ott = s.ott := by unfold bankReaction; split <;> rfl
@[simp] theorem bankReaction_memPresented (b : Bool) (a : SwitchAttempt) (s : State) : (bankReaction b a s).memPresented = s.memPresented := by unfold bankReaction; split <;> rfl
@[simp] theorem bankReaction_link (b : Bool) (a : SwitchAttempt) (s : State) : (bankReaction b a s).link = s.link := by unfold bankReaction; split <;> rfl
@[simp] theorem bankReaction_freeIndex (b : Bool) (a : SwitchAttempt) (s : State) : (bankReaction b a s).freeIndex = s.freeIndex := by unfold bankReaction; split <;> rfl
@[simp] theorem bankReaction_pending (b : Bool) (a : SwitchAttempt) (s : State) : (bankReaction b a s).pending = s.pending := by unfold bankReaction; split <;> rfl

/-! ## refillReaction -/

@[simp] theorem refillReaction_pins (s : State) : (refillReaction s).pins = s.pins := rfl
@[simp] theorem refillReaction_divider (s : State) : (refillReaction s).divider = s.divider := rfl
@[simp] theorem refillReaction_frameOutLeft (s : State) : (refillReaction s).frameOutLeft = s.frameOutLeft := rfl
@[simp] theorem refillReaction_seq (s : State) : (refillReaction s).seq = s.seq := rfl
@[simp] theorem refillReaction_settings (s : State) : (refillReaction s).settings = s.settings := rfl
@[simp] theorem refillReaction_banks (s : State) : (refillReaction s).banks = s.banks := rfl
@[simp] theorem refillReaction_stats (s : State) : (refillReaction s).stats = s.stats := rfl
@[simp] theorem refillReaction_mode (s : State) : (refillReaction s).mode = s.mode := rfl
@[simp] theorem refillReaction_presented (s : State) : (refillReaction s).presented = s.presented := rfl
@[simp] theorem refillReaction_returnQueue (s : State) : (refillReaction s).returnQueue = s.returnQueue := rfl
@[simp] theorem refillReaction_hold (s : State) : (refillReaction s).hold = s.hold := rfl
@[simp] theorem refillReaction_pointer (s : State) : (refillReaction s).pointer = s.pointer := rfl
@[simp] theorem refillReaction_offer (s : State) : (refillReaction s).offer = s.offer := rfl
@[simp] theorem refillReaction_ott (s : State) : (refillReaction s).ott = s.ott := rfl
@[simp] theorem refillReaction_memPresented (s : State) : (refillReaction s).memPresented = s.memPresented := rfl
@[simp] theorem refillReaction_incidents (s : State) : (refillReaction s).incidents = s.incidents := rfl
@[simp] theorem refillReaction_link (s : State) : (refillReaction s).link = s.link := rfl
@[simp] theorem refillReaction_freeIndex (s : State) : (refillReaction s).freeIndex = s.freeIndex := rfl
@[simp] theorem refillReaction_pending (s : State) : (refillReaction s).pending = s.pending := rfl

/-! ## beginFrame -/

@[simp] theorem beginFrame_pins (c : Cause) (b : BankControl) (s : State) : (beginFrame c b s).pins = s.pins := rfl
@[simp] theorem beginFrame_divider (c : Cause) (b : BankControl) (s : State) : (beginFrame c b s).divider = s.divider := rfl
@[simp] theorem beginFrame_settings (c : Cause) (b : BankControl) (s : State) : (beginFrame c b s).settings = s.settings := rfl
@[simp] theorem beginFrame_credit (c : Cause) (b : BankControl) (s : State) : (beginFrame c b s).credit = s.credit := rfl
@[simp] theorem beginFrame_stats (c : Cause) (b : BankControl) (s : State) : (beginFrame c b s).stats = s.stats := rfl
@[simp] theorem beginFrame_mode (c : Cause) (b : BankControl) (s : State) : (beginFrame c b s).mode = s.mode := rfl
@[simp] theorem beginFrame_presented (c : Cause) (b : BankControl) (s : State) : (beginFrame c b s).presented = s.presented := rfl
@[simp] theorem beginFrame_returnQueue (c : Cause) (b : BankControl) (s : State) : (beginFrame c b s).returnQueue = s.returnQueue := rfl
@[simp] theorem beginFrame_hold (c : Cause) (b : BankControl) (s : State) : (beginFrame c b s).hold = s.hold := rfl
@[simp] theorem beginFrame_pointer (c : Cause) (b : BankControl) (s : State) : (beginFrame c b s).pointer = s.pointer := rfl
@[simp] theorem beginFrame_offer (c : Cause) (b : BankControl) (s : State) : (beginFrame c b s).offer = s.offer := rfl
@[simp] theorem beginFrame_ott (c : Cause) (b : BankControl) (s : State) : (beginFrame c b s).ott = s.ott := rfl
@[simp] theorem beginFrame_memPresented (c : Cause) (b : BankControl) (s : State) : (beginFrame c b s).memPresented = s.memPresented := rfl
@[simp] theorem beginFrame_incidents (c : Cause) (b : BankControl) (s : State) : (beginFrame c b s).incidents = s.incidents := rfl
@[simp] theorem beginFrame_link (c : Cause) (b : BankControl) (s : State) : (beginFrame c b s).link = s.link := rfl
@[simp] theorem beginFrame_freeIndex (c : Cause) (b : BankControl) (s : State) : (beginFrame c b s).freeIndex = s.freeIndex := rfl
@[simp] theorem beginFrame_pending (c : Cause) (b : BankControl) (s : State) : (beginFrame c b s).pending = s.pending := rfl

/-! ## frameReactions -/

@[simp] theorem frameReactions_pins (b : Bool) (a : SwitchAttempt) (s : State) : (frameReactions b a s).pins = s.pins := by unfold frameReactions inOrder; (repeat' split) <;> simp
@[simp] theorem frameReactions_divider (b : Bool) (a : SwitchAttempt) (s : State) : (frameReactions b a s).divider = s.divider := by unfold frameReactions inOrder; (repeat' split) <;> simp
@[simp] theorem frameReactions_frameOutLeft (b : Bool) (a : SwitchAttempt) (s : State) : (frameReactions b a s).frameOutLeft = s.frameOutLeft := by unfold frameReactions inOrder; (repeat' split) <;> simp
@[simp] theorem frameReactions_seq (b : Bool) (a : SwitchAttempt) (s : State) : (frameReactions b a s).seq = s.seq := by unfold frameReactions inOrder; (repeat' split) <;> simp
@[simp] theorem frameReactions_settings (b : Bool) (a : SwitchAttempt) (s : State) : (frameReactions b a s).settings = s.settings := by unfold frameReactions inOrder; (repeat' split) <;> simp
@[simp] theorem frameReactions_credit (b : Bool) (a : SwitchAttempt) (s : State) : (frameReactions b a s).credit = s.credit := by unfold frameReactions inOrder; (repeat' split) <;> simp
@[simp] theorem frameReactions_presented (b : Bool) (a : SwitchAttempt) (s : State) : (frameReactions b a s).presented = s.presented := by unfold frameReactions inOrder; (repeat' split) <;> simp
@[simp] theorem frameReactions_pointer (b : Bool) (a : SwitchAttempt) (s : State) : (frameReactions b a s).pointer = s.pointer := by unfold frameReactions inOrder; (repeat' split) <;> simp
@[simp] theorem frameReactions_offer (b : Bool) (a : SwitchAttempt) (s : State) : (frameReactions b a s).offer = s.offer := by unfold frameReactions inOrder; (repeat' split) <;> simp
@[simp] theorem frameReactions_ott (b : Bool) (a : SwitchAttempt) (s : State) : (frameReactions b a s).ott = s.ott := by unfold frameReactions inOrder; (repeat' split) <;> simp
@[simp] theorem frameReactions_memPresented (b : Bool) (a : SwitchAttempt) (s : State) : (frameReactions b a s).memPresented = s.memPresented := by unfold frameReactions inOrder; (repeat' split) <;> simp
@[simp] theorem frameReactions_link (b : Bool) (a : SwitchAttempt) (s : State) : (frameReactions b a s).link = s.link := by unfold frameReactions inOrder; (repeat' split) <;> simp
@[simp] theorem frameReactions_pending (b : Bool) (a : SwitchAttempt) (s : State) : (frameReactions b a s).pending = s.pending := by unfold frameReactions inOrder; (repeat' split) <;> simp

/-! ## frameStart -/

@[simp] theorem frameStart_pins (c : Cause) (s : State) : (frameStart c s).pins = s.pins := by simp [frameStart]
@[simp] theorem frameStart_divider (c : Cause) (s : State) : (frameStart c s).divider = s.divider := by simp [frameStart]
@[simp] theorem frameStart_settings (c : Cause) (s : State) : (frameStart c s).settings = s.settings := by simp [frameStart]
@[simp] theorem frameStart_presented (c : Cause) (s : State) : (frameStart c s).presented = s.presented := by simp [frameStart]
@[simp] theorem frameStart_pointer (c : Cause) (s : State) : (frameStart c s).pointer = s.pointer := by simp [frameStart]
@[simp] theorem frameStart_offer (c : Cause) (s : State) : (frameStart c s).offer = s.offer := by simp [frameStart]
@[simp] theorem frameStart_ott (c : Cause) (s : State) : (frameStart c s).ott = s.ott := by simp [frameStart]
@[simp] theorem frameStart_memPresented (c : Cause) (s : State) : (frameStart c s).memPresented = s.memPresented := by simp [frameStart]
@[simp] theorem frameStart_link (c : Cause) (s : State) : (frameStart c s).link = s.link := by simp [frameStart]
@[simp] theorem frameStart_pending (c : Cause) (s : State) : (frameStart c s).pending = s.pending := by simp [frameStart]

/-! ## enterGap -/

@[simp] theorem enterGap_pins (s : State) : (enterGap s).pins = s.pins := rfl
@[simp] theorem enterGap_divider (s : State) : (enterGap s).divider = s.divider := rfl
@[simp] theorem enterGap_frameOutLeft (s : State) : (enterGap s).frameOutLeft = s.frameOutLeft := rfl
@[simp] theorem enterGap_settings (s : State) : (enterGap s).settings = s.settings := rfl
@[simp] theorem enterGap_banks (s : State) : (enterGap s).banks = s.banks := rfl
@[simp] theorem enterGap_credit (s : State) : (enterGap s).credit = s.credit := rfl
@[simp] theorem enterGap_stats (s : State) : (enterGap s).stats = s.stats := rfl
@[simp] theorem enterGap_mode (s : State) : (enterGap s).mode = s.mode := rfl
@[simp] theorem enterGap_presented (s : State) : (enterGap s).presented = s.presented := rfl
@[simp] theorem enterGap_returnQueue (s : State) : (enterGap s).returnQueue = s.returnQueue := rfl
@[simp] theorem enterGap_hold (s : State) : (enterGap s).hold = s.hold := rfl
@[simp] theorem enterGap_pointer (s : State) : (enterGap s).pointer = s.pointer := rfl
@[simp] theorem enterGap_offer (s : State) : (enterGap s).offer = s.offer := rfl
@[simp] theorem enterGap_ott (s : State) : (enterGap s).ott = s.ott := rfl
@[simp] theorem enterGap_memPresented (s : State) : (enterGap s).memPresented = s.memPresented := rfl
@[simp] theorem enterGap_incidents (s : State) : (enterGap s).incidents = s.incidents := rfl
@[simp] theorem enterGap_link (s : State) : (enterGap s).link = s.link := rfl
@[simp] theorem enterGap_freeIndex (s : State) : (enterGap s).freeIndex = s.freeIndex := rfl
@[simp] theorem enterGap_pending (s : State) : (enterGap s).pending = s.pending := rfl

/-! ## startSequencer -/

@[simp] theorem startSequencer_pins (s : State) : (startSequencer s).pins = s.pins := by unfold startSequencer; simp only; split <;> simp
@[simp] theorem startSequencer_divider (s : State) : (startSequencer s).divider = s.divider := by unfold startSequencer; simp only; split <;> simp
@[simp] theorem startSequencer_settings (s : State) : (startSequencer s).settings = s.settings := by unfold startSequencer; simp only; split <;> simp
@[simp] theorem startSequencer_presented (s : State) : (startSequencer s).presented = s.presented := by unfold startSequencer; simp only; split <;> simp
@[simp] theorem startSequencer_pointer (s : State) : (startSequencer s).pointer = s.pointer := by unfold startSequencer; simp only; split <;> simp
@[simp] theorem startSequencer_offer (s : State) : (startSequencer s).offer = s.offer := by unfold startSequencer; simp only; split <;> simp
@[simp] theorem startSequencer_ott (s : State) : (startSequencer s).ott = s.ott := by unfold startSequencer; simp only; split <;> simp
@[simp] theorem startSequencer_memPresented (s : State) : (startSequencer s).memPresented = s.memPresented := by unfold startSequencer; simp only; split <;> simp
@[simp] theorem startSequencer_link (s : State) : (startSequencer s).link = s.link := by unfold startSequencer; simp only; split <;> simp
@[simp] theorem startSequencer_pending (s : State) : (startSequencer s).pending = s.pending := by unfold startSequencer; simp only; split <;> simp

/-! ## expirePhase -/

@[simp] theorem expirePhase_pins (s : State) : (expirePhase s).pins = s.pins := by unfold expirePhase; (repeat' split) <;> simp
@[simp] theorem expirePhase_divider (s : State) : (expirePhase s).divider = s.divider := by unfold expirePhase; (repeat' split) <;> simp
@[simp] theorem expirePhase_settings (s : State) : (expirePhase s).settings = s.settings := by unfold expirePhase; (repeat' split) <;> simp
@[simp] theorem expirePhase_presented (s : State) : (expirePhase s).presented = s.presented := by unfold expirePhase; (repeat' split) <;> simp
@[simp] theorem expirePhase_pointer (s : State) : (expirePhase s).pointer = s.pointer := by unfold expirePhase; (repeat' split) <;> simp
@[simp] theorem expirePhase_offer (s : State) : (expirePhase s).offer = s.offer := by unfold expirePhase; (repeat' split) <;> simp
@[simp] theorem expirePhase_ott (s : State) : (expirePhase s).ott = s.ott := by unfold expirePhase; (repeat' split) <;> simp
@[simp] theorem expirePhase_memPresented (s : State) : (expirePhase s).memPresented = s.memPresented := by unfold expirePhase; (repeat' split) <;> simp
@[simp] theorem expirePhase_link (s : State) : (expirePhase s).link = s.link := by unfold expirePhase; (repeat' split) <;> simp
@[simp] theorem expirePhase_pending (s : State) : (expirePhase s).pending = s.pending := by unfold expirePhase; (repeat' split) <;> simp

/-! ## expireGuard -/

@[simp] theorem expireGuard_pins (s : State) : (expireGuard s).pins = s.pins := by simp [expireGuard]
@[simp] theorem expireGuard_divider (s : State) : (expireGuard s).divider = s.divider := by simp [expireGuard]
@[simp] theorem expireGuard_settings (s : State) : (expireGuard s).settings = s.settings := by simp [expireGuard]
@[simp] theorem expireGuard_presented (s : State) : (expireGuard s).presented = s.presented := by simp [expireGuard]
@[simp] theorem expireGuard_pointer (s : State) : (expireGuard s).pointer = s.pointer := by simp [expireGuard]
@[simp] theorem expireGuard_offer (s : State) : (expireGuard s).offer = s.offer := by simp [expireGuard]
@[simp] theorem expireGuard_ott (s : State) : (expireGuard s).ott = s.ott := by simp [expireGuard]
@[simp] theorem expireGuard_memPresented (s : State) : (expireGuard s).memPresented = s.memPresented := by simp [expireGuard]
@[simp] theorem expireGuard_link (s : State) : (expireGuard s).link = s.link := by simp [expireGuard]
@[simp] theorem expireGuard_pending (s : State) : (expireGuard s).pending = s.pending := by simp [expireGuard]

/-! ## seqReaction -/

@[simp] theorem seqReaction_pins (s : State) : (seqReaction s).pins = s.pins := by unfold seqReaction; (repeat' split) <;> simp
@[simp] theorem seqReaction_divider (s : State) : (seqReaction s).divider = s.divider := by unfold seqReaction; (repeat' split) <;> simp
@[simp] theorem seqReaction_settings (s : State) : (seqReaction s).settings = s.settings := by unfold seqReaction; (repeat' split) <;> simp
@[simp] theorem seqReaction_presented (s : State) : (seqReaction s).presented = s.presented := by unfold seqReaction; (repeat' split) <;> simp
@[simp] theorem seqReaction_pointer (s : State) : (seqReaction s).pointer = s.pointer := by unfold seqReaction; (repeat' split) <;> simp
@[simp] theorem seqReaction_offer (s : State) : (seqReaction s).offer = s.offer := by unfold seqReaction; (repeat' split) <;> simp
@[simp] theorem seqReaction_ott (s : State) : (seqReaction s).ott = s.ott := by unfold seqReaction; (repeat' split) <;> simp
@[simp] theorem seqReaction_memPresented (s : State) : (seqReaction s).memPresented = s.memPresented := by unfold seqReaction; (repeat' split) <;> simp
@[simp] theorem seqReaction_link (s : State) : (seqReaction s).link = s.link := by unfold seqReaction; (repeat' split) <;> simp
@[simp] theorem seqReaction_pending (s : State) : (seqReaction s).pending = s.pending := by unfold seqReaction; (repeat' split) <;> simp

/-! ## expireEntry -/

@[simp] theorem expireEntry_pins (s : State) (i : OttIndex) : (expireEntry s i).pins = s.pins := by unfold expireEntry; split <;> simp
@[simp] theorem expireEntry_divider (s : State) (i : OttIndex) : (expireEntry s i).divider = s.divider := by unfold expireEntry; split <;> simp
@[simp] theorem expireEntry_frameOutLeft (s : State) (i : OttIndex) : (expireEntry s i).frameOutLeft = s.frameOutLeft := by unfold expireEntry; split <;> simp
@[simp] theorem expireEntry_seq (s : State) (i : OttIndex) : (expireEntry s i).seq = s.seq := by unfold expireEntry; split <;> simp
@[simp] theorem expireEntry_settings (s : State) (i : OttIndex) : (expireEntry s i).settings = s.settings := by unfold expireEntry; split <;> simp
@[simp] theorem expireEntry_banks (s : State) (i : OttIndex) : (expireEntry s i).banks = s.banks := by unfold expireEntry; split <;> simp
@[simp] theorem expireEntry_credit (s : State) (i : OttIndex) : (expireEntry s i).credit = s.credit := by unfold expireEntry; split <;> simp
@[simp] theorem expireEntry_mode (s : State) (i : OttIndex) : (expireEntry s i).mode = s.mode := by unfold expireEntry; split <;> simp
@[simp] theorem expireEntry_presented (s : State) (i : OttIndex) : (expireEntry s i).presented = s.presented := by unfold expireEntry; split <;> simp
@[simp] theorem expireEntry_hold (s : State) (i : OttIndex) : (expireEntry s i).hold = s.hold := by unfold expireEntry; split <;> simp
@[simp] theorem expireEntry_pointer (s : State) (i : OttIndex) : (expireEntry s i).pointer = s.pointer := by unfold expireEntry; split <;> simp
@[simp] theorem expireEntry_offer (s : State) (i : OttIndex) : (expireEntry s i).offer = s.offer := by unfold expireEntry; split <;> simp
@[simp] theorem expireEntry_memPresented (s : State) (i : OttIndex) : (expireEntry s i).memPresented = s.memPresented := by unfold expireEntry; split <;> simp
@[simp] theorem expireEntry_link (s : State) (i : OttIndex) : (expireEntry s i).link = s.link := by unfold expireEntry; split <;> simp
@[simp] theorem expireEntry_freeIndex (s : State) (i : OttIndex) : (expireEntry s i).freeIndex = s.freeIndex := by unfold expireEntry; split <;> simp
@[simp] theorem expireEntry_pending (s : State) (i : OttIndex) : (expireEntry s i).pending = s.pending := by unfold expireEntry; split <;> simp

/-! ## ottReaction -/

@[simp] theorem ottReaction_pins (s : State) : (ottReaction s).pins = s.pins := foldl_field State.pins expireEntry_pins _ s
@[simp] theorem ottReaction_divider (s : State) : (ottReaction s).divider = s.divider := foldl_field State.divider expireEntry_divider _ s
@[simp] theorem ottReaction_frameOutLeft (s : State) : (ottReaction s).frameOutLeft = s.frameOutLeft := foldl_field State.frameOutLeft expireEntry_frameOutLeft _ s
@[simp] theorem ottReaction_seq (s : State) : (ottReaction s).seq = s.seq := foldl_field State.seq expireEntry_seq _ s
@[simp] theorem ottReaction_settings (s : State) : (ottReaction s).settings = s.settings := foldl_field State.settings expireEntry_settings _ s
@[simp] theorem ottReaction_banks (s : State) : (ottReaction s).banks = s.banks := foldl_field State.banks expireEntry_banks _ s
@[simp] theorem ottReaction_credit (s : State) : (ottReaction s).credit = s.credit := foldl_field State.credit expireEntry_credit _ s
@[simp] theorem ottReaction_mode (s : State) : (ottReaction s).mode = s.mode := foldl_field State.mode expireEntry_mode _ s
@[simp] theorem ottReaction_presented (s : State) : (ottReaction s).presented = s.presented := foldl_field State.presented expireEntry_presented _ s
@[simp] theorem ottReaction_hold (s : State) : (ottReaction s).hold = s.hold := foldl_field State.hold expireEntry_hold _ s
@[simp] theorem ottReaction_pointer (s : State) : (ottReaction s).pointer = s.pointer := foldl_field State.pointer expireEntry_pointer _ s
@[simp] theorem ottReaction_offer (s : State) : (ottReaction s).offer = s.offer := foldl_field State.offer expireEntry_offer _ s
@[simp] theorem ottReaction_memPresented (s : State) : (ottReaction s).memPresented = s.memPresented := foldl_field State.memPresented expireEntry_memPresented _ s
@[simp] theorem ottReaction_link (s : State) : (ottReaction s).link = s.link := foldl_field State.link expireEntry_link _ s
@[simp] theorem ottReaction_freeIndex (s : State) : (ottReaction s).freeIndex = s.freeIndex := foldl_field State.freeIndex expireEntry_freeIndex _ s
@[simp] theorem ottReaction_pending (s : State) : (ottReaction s).pending = s.pending := foldl_field State.pending expireEntry_pending _ s

/-! ## settle -/

@[simp] theorem settle_pins (s : State) : (settle s).pins = s.pins := by unfold settle; (repeat' split) <;> simp
@[simp] theorem settle_divider (s : State) : (settle s).divider = s.divider := by unfold settle; (repeat' split) <;> simp
@[simp] theorem settle_settings (s : State) : (settle s).settings = s.settings := by unfold settle; (repeat' split) <;> simp
@[simp] theorem settle_presented (s : State) : (settle s).presented = s.presented := by unfold settle; (repeat' split) <;> simp
@[simp] theorem settle_pointer (s : State) : (settle s).pointer = s.pointer := by unfold settle; (repeat' split) <;> simp
@[simp] theorem settle_offer (s : State) : (settle s).offer = s.offer := by unfold settle; (repeat' split) <;> simp
@[simp] theorem settle_memPresented (s : State) : (settle s).memPresented = s.memPresented := by unfold settle; (repeat' split) <;> simp
@[simp] theorem settle_link (s : State) : (settle s).link = s.link := by unfold settle; (repeat' split) <;> simp
@[simp] theorem settle_pending (s : State) : (settle s).pending = s.pending := by unfold settle; (repeat' split) <;> simp

end Sys2Proof.Machine
end

