-- ==== Sys2Proof/Laws/Ops.lean ====
section
/-! SUPPORT. For each shared operation, the lemmas that say what it does: provers cite these instead of unfolding it. -/

namespace Sys2Proof.Machine

/-! ## Tables -/

/-- Reading a table with one item replaced, at a number within it. -/
@[simp] theorem getElem_setAt {α : Type} {n : Nat} (v : Vector α n) (i : Fin n) (a : α) (j : Nat) (h : j < n) :
    (setAt v i a)[j] = if i.val = j then a else v[j] := by
  simp [setAt, Vector.getElem_set]

/-- Reading a table with one item replaced. -/
theorem setAt_get {α : Type} {n : Nat} (v : Vector α n) (i j : Fin n) (a : α) :
    (setAt v i a)[j] = if i = j then a else v[j] := by
  simp [Fin.ext_iff]

/-- Reading a table under a function, at a number within it. -/
@[simp] theorem getElem_mapAll {α β : Type} {n : Nat} (f : α → β) (v : Vector α n) (j : Nat) (h : j < n) :
    (mapAll f v)[j] = f v[j] := by simp [mapAll]

/-- Two tables with the same items are the same table. -/
theorem table_ext {α : Type} {n : Nat} {v w : Vector α n} (h : ∀ i : Fin n, v[i] = w[i]) : v = w := by
  apply Vector.ext
  intro i hi
  exact h ⟨i, hi⟩

/-- The item at the lowest index that satisfies a test. -/
theorem find_finRange_eq_some {n : Nat} {p : Fin n → Bool} {i : Fin n} :
    (List.finRange n).find? p = some i ↔ p i = true ∧ ∀ j, j < i → p j = false := by
  rw [List.find?_eq_some_iff_getElem]
  constructor
  · rintro ⟨hp, k, hk, hi, hlt⟩
    refine ⟨hp, fun j hj => ?_⟩
    have hki : k = i.val := by simpa [Fin.ext_iff] using congrArg Fin.val hi
    have := hlt j.val (by omega)
    simpa using this
  · rintro ⟨hp, hlt⟩
    refine ⟨hp, i.val, by simp, by simp, fun j hj => ?_⟩
    have := hlt ⟨j, by omega⟩ (by simpa [Fin.lt_def] using hj)
    simp [this]

/-! ## Steps and events -/

/-- A step with a command in front. -/
@[simp] theorem step_cons (c : Instr) (rest : List Instr) (s : State) :
    step { s with pending := c :: rest } = exec c { s with pending := rest } := rfl

/-- A step on an empty queue. -/
theorem step_idle {s : State} (h : s.pending = []) : step s = .next (refclk (settle s)) := by
  unfold step; rw [h]

/-- Nothing waits: there is nothing to settle. -/
theorem settle_of_quiet {s : State} (h : quiet s = true) : settle s = s := by simp [settle, h]

/-- A command acts on the state as it is where nothing waits. -/
theorem event_of_quiet {s : State} (f : State → State) (h : quiet s = true) : event f s = .next (f s) := by
  simp [event, settle_of_quiet h]

/-- A quiet state has no expiry of a phase, a guard or a deadline waiting. -/
theorem quiet_iff {s : State} :
    quiet s = true ↔ phaseDue s = false ∧ guardDue s = false ∧ deadlineDue s = false := by
  simp [quiet, and_assoc]

/-! ## Incidents -/

/-- An incident that matches the newest record raises its repeat count alone (R141). -/
theorem take_matching {u : IncidentUnit} {i : Incident} {frame : Option Word32} {old : List IncidentRecord}
    {n : IncidentRecord} (phase : Option ShownPhase) (hq : u.queue = old ++ [n])
    (hm : u.matchesNewest n i frame = true) :
    u.take i frame phase = { u with queue := old ++ [{ n with repeatCount := min (n.repeatCount + 1) 65535 }] } := by
  simp [IncidentUnit.take, IncidentUnit.coalesce, hq, hm]

/-- An incident that does not match the newest record is added or lost (R142, R143). -/
theorem take_other {u : IncidentUnit} {i : Incident} {frame : Option Word32} (phase : Option ShownPhase)
    (hm : ∀ n, u.queue.getLast? = some n → u.matchesNewest n i frame = false) :
    u.take i frame phase = u.addOrLose i frame phase := by
  unfold IncidentUnit.take
  split
  · rename_i n hn; simp [hm n hn]
  · rfl

/-! ## Credit -/

/-- A charge keeps the sum of charged beats and remaining credit equal to the granted credit (R50 to R52). -/
theorem charge_sum {c : Credit} (n : Nat) (h : (c.charged : Int) + c.remaining = c.granted) :
    ((c.charge n).charged : Int) + (c.charge n).remaining = (c.charge n).granted := by
  unfold Credit.charge
  split <;> (dsimp only; omega)

/-- A refill sets remaining credit to the granted credit and the charged beats to 0 (R48, R49). -/
theorem refill_sum (c : Credit) (r : PartRecord) :
    ((c.refill r).charged : Int) + (c.refill r).remaining = (c.refill r).granted := by
  unfold Credit.refill
  split
  · split <;> simp
  · simp

/-! ## Openings -/

/-- An entry is FREE exactly where the test says so. -/
theorem isFree_iff {x : OttEntry} : x.isFree = true ↔ x = .free := by cases x <;> simp [OttEntry.isFree]

/-- The lowest FREE index (R121). -/
theorem lowestFree_eq_some {s : State} {i : OttIndex} :
    lowestFree s = some i ↔ s.ott[i] = .free ∧ ∀ j : OttIndex, j < i → s.ott[j] ≠ .free := by
  unfold lowestFree
  rw [find_finRange_eq_some]
  simp only [isFree_iff, Bool.eq_false_iff, ne_eq]

/-- An entry is FREE somewhere exactly when a lowest one is found. -/
theorem lowestFree_isSome {s : State} : (lowestFree s).isSome = true ↔ ∃ i : OttIndex, s.ott[i] = .free := by
  unfold lowestFree
  rw [List.find?_isSome]
  simp only [List.mem_finRange, true_and, isFree_iff]

/-- The opening at the lowest FREE index (R121). -/
theorem openEntry_at {s : State} {i : OttIndex} (q : Taken) (p : Option Partition) (h : lowestFree s = some i) :
    openEntry q p s = openAt i q p s := by simp [openEntry, h]

/-! ## Mode Control -/

/-- The hold queues are all empty exactly when the store is. -/
theorem storeEmpty_iff {s : State} : storeEmpty s = true ↔ ∀ p : Partition, s.hold[p] = [] := by
  unfold storeEmpty
  rw [List.all_eq_true]
  constructor
  · intro h p
    have := h s.hold[p] (by simp)
    simpa using this
  · intro h q hq
    obtain ⟨i, hi, rfl⟩ := List.getElem_of_mem hq
    have := h ⟨i, by simpa using hi⟩
    simpa using this

/-- The count of held entries is 0 exactly when the store is empty. -/
theorem storeCount_eq_zero {s : State} : storeCount s = 0 ↔ storeEmpty s = true := by
  unfold storeCount storeEmpty
  induction s.hold.toList with
  | nil => simp
  | cons q l ih => simp [ih]

/-- Outside a drain a departure leaves the mode alone (R69). -/
theorem completeDrain_other {s : State} (h : s.mode.inForce ≠ .draining) : completeDrain s = s := by
  simp [completeDrain, h]

/-- With an entry still held a drain goes on (R69). -/
theorem completeDrain_waits {s : State} (h : storeEmpty s = false) : completeDrain s = s := by
  simp [completeDrain, h]

/-- With the last entry gone a drain ends in its target, and that change of mode is recorded (R69, R70). -/
theorem completeDrain_ends {s : State} {m : Mode} (h : s.mode.inForce = .draining) (he : storeEmpty s = true)
    (ht : s.mode.drainTarget = some m) (hm : m ≠ .draining) :
    completeDrain s = record (Incident.plain .modeChanged ((modeCode m).zeroExtend 16))
      { s with mode := { s.mode with inForce := m, drainTarget := none } } := by
  simp [completeDrain, changeMode, h, he, ht, hm]

/-! ## Frame start -/

/-- What each of three reactions keeps, every order of them keeps. -/
theorem inOrder_field {α : Type} (g : State → α) {bank mode hold : State → State} (hb : ∀ s, g (bank s) = g s)
    (hm : ∀ s, g (mode s) = g s) (hh : ∀ s, g (hold s) = g s) (o : ReactionOrder) (s : State) :
    g (inOrder o bank mode hold s) = g s := by
  cases o <;> simp only [inOrder, hb, hm, hh]

/-- The blocks react to a frame start in one of their orders, whatever the free value (log 4). -/
theorem frameReactions_inOrder (first : Bool) (a : SwitchAttempt) (s : State) :
    ∃ o, frameReactions first a s = inOrder o (bankReaction first a) modeReaction holdReaction
      { s with freeIndex := (frameReactions first a s).freeIndex } := by
  have key : ∃ (o : ReactionOrder) (k : Nat),
      frameReactions first a s = inOrder o (bankReaction first a) modeReaction holdReaction
        { s with freeIndex := k } := by
    unfold frameReactions
    split
    · exact ⟨_, _, rfl⟩
    · exact ⟨.bankModeHold, s.freeIndex, by simp only [inOrder]⟩
  obtain ⟨o, k, h⟩ := key
  refine ⟨o, ?_⟩
  have hk : (frameReactions first a s).freeIndex = k := by
    rw [h]; exact inOrder_field State.freeIndex (by simp) (by simp) (by simp) o _
  rw [hk]; exact h

/-- The reactions to a frame start leave the bank in force as the decision named it (R12, R35, R36). -/
theorem frameReactions_inForce (first : Bool) (a : SwitchAttempt) (s : State) :
    (frameReactions first a s).banks.inForce = s.banks.inForce := by
  obtain ⟨o, h⟩ := frameReactions_inOrder first a s
  rw [h]
  refine inOrder_field (fun s => s.banks.inForce) (fun s => ?_) (by simp) (by simp) o _
  cases a <;> rfl

/-! ## Deadlines -/

/-- No deadline waits: the reaction of the OTT changes nothing. -/
theorem ottReaction_of_not_due {s : State} (h : deadlineDue s = false) : ottReaction s = s := by
  have hstep : ∀ i : OttIndex, expireEntry s i = s := by
    intro i
    unfold expireEntry
    split
    · rename_i t ht
      have : deadlineDue s = true := by
        unfold deadlineDue
        rw [List.any_eq_true]
        refine ⟨s.ott[i], by simp, ?_⟩
        rw [ht]; rfl
      rw [h] at this; cases this
    all_goals rfl
  unfold ottReaction
  induction List.finRange 32 with
  | nil => rfl
  | cons a l ih => rw [List.foldl_cons, hstep, ih]

/-! ## Codes -/

/-- The bits of a byte, read back (R150, R162). -/
@[simp] theorem byteOfBits_bits (b : Byte) :
    byteOfBits (b.getLsbD 7) (b.getLsbD 6) (b.getLsbD 5) (b.getLsbD 4) (b.getLsbD 3) (b.getLsbD 2) (b.getLsbD 1)
      (b.getLsbD 0) = b := by
  revert b; decide +kernel

/-- The bytes of a transaction that carries whole bytes (R150). -/
@[simp] theorem groupBits_bitsOfBytes (bs : List Byte) : groupBits (bitsOfBytes bs) = (bs, []) := by
  induction bs with
  | nil => rfl
  | cons b bs ih =>
    show groupBits (_ :: _ :: _ :: _ :: _ :: _ :: _ :: _ :: bitsOfBytes bs) = _
    rw [groupBits, ih, byteOfBits_bits]

/-- A field of two bytes, read back (R162). -/
@[simp] theorem halfOfBytes_beBytes (h : Half) : beBytes 2 h = [h.extractLsb' 8 8, h.extractLsb' 0 8] ∧
    halfOfBytes (h.extractLsb' 8 8) (h.extractLsb' 0 8) = h := by
  refine ⟨rfl, ?_⟩
  unfold halfOfBytes
  apply BitVec.eq_of_getLsbD_eq
  intro i hi
  simp only [BitVec.getLsbD_append, BitVec.getLsbD_extractLsb']
  by_cases h8 : i < 8
  · simp [h8]
  · have : i - 8 < 8 := by omega
    simp [h8, this]
    congr 1; omega

/-- A byte of a field by its place value (R162). -/
theorem extractLsb'_byte {w : Nat} (v : BitVec w) (k : Nat) :
    v.extractLsb' (8 * k) 8 = BitVec.ofNat 8 (v.toNat / 256 ^ k) := by
  apply BitVec.eq_of_toNat_eq
  simp [BitVec.extractLsb'_toNat, Nat.shiftRight_eq_div_pow, Nat.pow_mul]

/-- Where each bit of a byte stands in the order sent (R162). -/
theorem byteBits_get : ∀ (b : Byte) (i : Fin 8), (byteBits b)[i.val]? = some (b.getLsbD (7 - i.val)) := by
  decide +kernel

/-- The bits on MISO are those of its bytes, the most significant first (R150, R162). -/
theorem misoBit_of_byte (s : State) (k : Nat) {j : Nat} (hj : j < 8) :
    misoBit s (8 * k + j) = (misoByte s k).map fun b => b.getLsbD (7 - j) := by
  have hk : (8 * k + j) / 8 = k := by omega
  have hm : (8 * k + j) % 8 = j := by omega
  unfold misoBit
  rw [hk, hm, Option.map_eq_bind]
  exact congrArg (misoByte s k).bind (funext fun b => byteBits_get b ⟨j, hj⟩)

/-- The row of a link command runs that command. -/
theorem exec_row (c : LinkCommand) (s : State) : exec c.row s = event (runCommand c) s := by
  cases c <;> rfl

/-- A command row with the link free carries the command out. -/
theorem runCommand_idle {c : LinkCommand} {s : State} (hr : s.pins.rst = false) (hc : s.pins.cs = false)
    (h : s.link.state = .idle ∨ s.link.state = .executing (.command c)) : runCommand c s = carryOut c s := by
  rcases h with h | h <;> simp [runCommand, finishExecution, hr, hc, h]

end Sys2Proof.Machine
end

