-- ==== Sys2Proof/Tests/Slice0.lean ====
section
/-! SUPPORT. The model's own tests: the well-formedness smoke, one or two steps per command with the manual's numbers, and for every statement that has hypotheses a state that meets them. -/

-- One theorem at a time: their evaluations together start more threads than a small machine has room for.
set_option Elab.async false

namespace Sys2Proof.Tests

open Sys2Proof.Machine
open Sys2Proof.Safety
open Sys2Proof.Claims

/-! ## Helpers -/

/-- The state after a command; the commands of this part always answer a next state. -/
def after (c : Instr) (s : State) : State :=
  match exec c s with
  | .next t => t
  | .fault _ => s
  | .refused _ => s

/-- An enabled partition record. -/
def part (window : BitVec 8) (base : Fin 4096) (fraction : Fin 8) (queueLimit : Fin 33) (holdLimit : Fin 256) :
    PartRecord :=
  { enabled := true, window := window, budgetBase := base, budgetFraction := fraction, queueLimit := queueLimit
    holdLimit := holdLimit }

/-- Two phases of 3 and 2 ticks; P0 in both, P1 in B; requester 0 in P0, requester 1 in P1. -/
def demo : Schedule :=
  { phaseCount := 2
    lengths := #v[3, 2, 0, 0, 0, 0, 0, 0]
    parts := #v[part 3 20 3 2 1, part 2 16 0 2 0, PartRecord.zero, PartRecord.zero, PartRecord.zero,
      PartRecord.zero, PartRecord.zero, PartRecord.zero]
    map := Vector.ofFn fun r => if r = 0 then some 0 else if r = 1 then some 1 else none }

/-- Both banks hold the demo schedule; Bank 0 is in one state and Bank 1 in another. -/
def banks (a b : BankState) : BankControl :=
  { bank0 := { contents := demo, state := a }, bank1 := { contents := demo, state := b }
    pendingSwitch := none, framesInBank := 4 }

/-- Full credit. -/
def full (n : Nat) : Credit := { granted := n, remaining := n, charged := 0, fraction := 0 }

/-- STOPPED with Bank 0 READY. -/
def stopped : State := { State.reset with banks := { banks .ready .editing with framesInBank := 0 } }

/-- RUNNING frame 7 in a phase, with so many ticks remaining. -/
def running (m : Mode) (f : SyncMode) (p : Phase) (ticks : Nat) : State :=
  { State.reset with
    seq := { state := .running, frame := 7, phase := some p, ticksLeft := ticks, gapElapsed := 0
             guardInForce := 0, cause := some .timed, firstPending := false }
    settings := { Settings.reset with syncMode := f }
    banks := banks .active .ready
    credit := Vector.replicate 8 (full 20)
    mode := { inForce := m, requested := none, drainTarget := if m = .draining then some .observe else none } }

/-- GAP after frame 7. -/
def inGap (m : Mode) (guard elapsed : Nat) : State :=
  { running m .follow 0 0 with
    seq := { state := .gap, frame := 7, phase := none, ticksLeft := 0, gapElapsed := elapsed
             guardInForce := guard, cause := some .sync, firstPending := false } }

/-- A READ request. -/
def request (r : Requester) (t : Tag) (lenLess1 : Fin 16) : Request :=
  { requester := r, tag := t, kind := .read, addr := 5, lenLess1 := lenLess1
    data := Vector.replicate 16 { bytes := 0, enables := 0 } }

/-- A held READ. -/
def entry (r : Requester) (t : Tag) (lenLess1 : Fin 16) (p : Partition) (frame : Word32) : HeldEntry :=
  { request := takenOf (request r t lenLess1), partition := p, admitted := frame }

/-- A transaction of the OTT. -/
def transaction (k : Kind) (t : Tag) (p : Option Partition) (slot : Bool) : Transaction :=
  { requester := 3, tag := t, kind := k, addr := 5, lenLess1 := 3, partition := p, inSlot := slot }

/-- A response without data. -/
def response (i : OttIndex) (st : MemStatus) (beats : Fin 32) : Response :=
  { mtag := i, status := st, beatCount := beats, data := Vector.replicate 16 9 }

/-- The queues of two partitions. -/
def queues (q0 q1 : List HeldEntry) : Vector (List HeldEntry) 8 := #v[q0, q1, [], [], [], [], [], []]

/-- ENFORCE with an entry of one beat held for P0 and one of 16 beats for P1. -/
def holding : State :=
  { running .enforce .free 0 3 with hold := queues [entry 0 1 0 0 7] [entry 1 2 15 1 7] }

/-- One OPEN entry, its request accepted, with so many ticks to its deadline. -/
def awaiting (ticks : Nat) : State :=
  { State.reset with ott := State.reset.ott.set 0 (.opened (transaction .read 40 (some 0) false) ticks) }

/-- One EXPIRED entry. -/
def quarantined : State :=
  { State.reset with ott := State.reset.ott.set 0 (.expired (transaction .read 40 none false)) }

/-- One OPEN entry whose request is offered. -/
def offering : State :=
  { State.reset with
    ott := State.reset.ott.set 0 (.opened (transaction .read 40 none true) 9)
    offer := some { requester := 3, mtag := 0, kind := .read, addr := 5, lenLess1 := 3, data := [] } }

/-- CS_N is asserted and a transaction is in progress. -/
def receiving (early : Bool) : State :=
  { State.reset with
    pins := { State.reset.pins with cs := true }, link := { Link.reset with state := .receiving early } }

/-- The link is carrying out a command. -/
def executing (c : LinkCommand) : State :=
  { State.reset with link := { Link.reset with state := .executing (.command c) } }

/-- RST_N is asserted. -/
def inReset : State := { State.reset with pins := { State.reset.pins with rst := true } }

/-- DRST_N is asserted. -/
def inMemoryReset : State := { State.reset with pins := { State.reset.pins with drst := true } }

/-- An incident record waits. -/
def reported : State := after (.responseArrival (response 4 .ok 0)) State.reset

/-- What a command replied. -/
abbrev replied (st : ReplyStatus) (bytes : List Byte) (s : State) : Prop :=
  s.link.state = .executing (.replying { status := st, bytes := bytes })

/-- A RUNNING state with the items of 2.6 and the other bank's state given. -/
def switching (first alternation : Bool) (k : Fin 8) (count : Nat) (pendingBank : Option BankId) (other : BankState) :
    State :=
  { running .straight .free 0 3 with
    seq := { (running .straight .free 0 3).seq with firstPending := first }
    settings := { Settings.reset with alternation := alternation, exponent := k }
    banks := { banks .active other with pendingSwitch := pendingBank, framesInBank := count } }

/-- DRAINING towards OBSERVE with an entry of one beat held in a queue since a frame; the frame held is 7. -/
def draining (p : Partition) (frame : Word32) : State :=
  { running .draining .free 0 3 with hold := Vector.ofFn fun k => if k = p then [entry 0 1 0 p frame] else [] }

/-! ## Well-formed commands -/

/-- A WRITE_MAP whose entries do not fit a frame is refused. -/
theorem test_wf_refuses_long_map : (Instr.writeMap 0 0 198 (List.replicate 198 0)).wf = false := by decide +kernel

/-- A WRITE_MAP whose entries are not as many as its count is refused. -/
theorem test_wf_refuses_miscounted_map : (Instr.writeMap 0 0 2 [1]).wf = false := by decide

/-- The same two checks on the link's own commands. -/
theorem test_wf_refuses_link_maps :
    (LinkCommand.writeMap 0 0 198 (List.replicate 198 0)).wf = false ∧
    (LinkCommand.writeMap 0 0 2 [1]).wf = false := by decide +kernel

/-- A WRITE_MAP whose entries match and fit is well formed. -/
theorem test_wf_accepts_map : (Instr.writeMap 0 7 1 [0xFF]).wf = true := by decide

/-! ## Frames and codes (11.1 to 11.3) -/

/-- The NOP frame is 00h 00h D7h (R164). -/
theorem test_crc_nop : frameOf .nop = [0x00, 0x00, 0xD7] := by decide +kernel

/-- The reply stream after pin reset is 00h 00h D7h (R164). -/
theorem test_reply_after_reset : replyStream State.reset.link.reply = [0x00, 0x00, 0xD7] := by decide +kernel

/-- A frame with padding is read as its command (R151). -/
theorem test_frame_padding : checkFrame (frameOf (.closeBank 1) ++ [0xFF, 0xFF]) [] = .sound (.closeBank 1) := by
  decide +kernel

/-- A WRITE_SETTINGS frame in the byte order of 11.6. -/
theorem test_frame_settings :
    checkFrame (let b : List Byte := [0x03, 9, 49, 0x01, 0x12, 0x34, 3, 0, 0, 1, 1]; b ++ [crc8 b]) [] =
      .sound (.writeSettings 49 1 0x1234 3 0 0 1 1) := by decide +kernel

/-- Framing, CRC, code, argument length and ranges are judged in this order (R151 to R153). -/
theorem test_frame_failures :
    checkFrame [0x00, 0x00, 0xD7] [true] = .error .framingError ∧
    checkFrame [0x00, 0x00, 0xD6] [] = .error .crcError ∧
    checkFrame (let b : List Byte := [0x3E, 0]; b ++ [crc8 b]) [] = .error .unknownCommand ∧
    checkFrame (let b : List Byte := [0x00, 1, 0]; b ++ [crc8 b]) [] = .error .badArgument ∧
    checkFrame (let b : List Byte := [0x20, 1, 3]; b ++ [crc8 b]) [] = .error .badArgument := by decide +kernel

/-- The decoder of table words spells no command: no row gives bits (log 12). -/
theorem test_no_table_word : decodeTableWord 32 0 = none ∧ State.reset.withFetchWord 32 0 = State.reset :=
  ⟨rfl, rfl⟩

/-! ## Time and frames -/

/-- An idle step is one REFCLK period (log 11). -/
theorem test_idle_step : step State.reset = .next { State.reset with divider := 1 } :=
  congrArg Host.Outcome.next (by decide : refclk (settle State.reset) = { State.reset with divider := 1 })

/-- The 1600th period brings a tick (R1, 1.1). -/
theorem test_tick_period :
    refclk { running .straight .free 0 3 with divider := 1599 } = running .straight .free 0 2 := by decide

theorem test_tick_phase : after .tick (running .straight .free 0 3) = running .straight .free 0 2 := by decide

theorem test_tick_deadline : after .tick (awaiting 9) = awaiting 8 := by decide

/-- Phase A of 1.12's kind is followed by phase B (R8). -/
theorem test_phaseExpiry :
    after .phaseExpiry (running .straight .free 0 0) = running .straight .free 1 2 := by decide

/-- The last phase in FOLLOW ends in GAP (R9, R10). -/
theorem test_phaseExpiry_gap :
    let t := after .phaseExpiry (running .straight .follow 1 0)
    t.seq.state = .gap ∧ t.seq.phase = none ∧ t.frameOutLeft = 0 := by decide

/-- Tick 1210 of 1.13: the guard of 30 expires, and SYNC_MISSED comes before the new frame (R11). -/
theorem test_guardExpiry :
    let t := after .guardExpiry (inGap .straight 30 30)
    t.seq.frame = 8 ∧ t.seq.cause = some .guard ∧ t.seq.phase = some 0 ∧ t.frameOutLeft = 64 ∧
    t.incidents.queue.map (fun r => (r.kind, r.detail, r.phase)) = [(.syncMissed, 30, some .gap)] := by decide

/-- Tick 1215 of 1.13: the arrival cuts the frame with its ticks remaining as detail (R16). -/
theorem test_syncInArrival_cut :
    let t := after .syncInArrival (running .straight .follow 0 2)
    t.seq.frame = 8 ∧ t.seq.cause = some .sync ∧ t.seq.ticksLeft = 3 ∧
    t.incidents.queue.map (fun r => (r.kind, r.detail, r.frame)) = [(.frameCut, 2, some 7)] := by decide

theorem test_syncInArrival_gap : (after .syncInArrival (inGap .straight 30 8)).incidents.queue = [] := by decide

/-- A due alternation at a frame start: BANK_SWITCHED to Bank 1, or SWITCH_DECLINED with EDITING (R36). -/
theorem test_bank_records :
    let s := switching false true 0 1 none
    (frameStart .timed (s .ready)).incidents.queue.map (fun r => (r.kind, r.detail)) = [(.bankSwitched, 1)] ∧
    (frameStart .timed (s .editing)).incidents.queue.map (fun r => (r.kind, r.detail)) = [(.switchDeclined, 0)] := by
  decide

/-- The last held entry expires in DRAINING: HOLD_EXPIRED, then MODE_CHANGED to OBSERVE (R69, R102). -/
theorem test_holdExpiry_drain :
    let t := holdReaction (draining 0 6)
    t.mode = { inForce := .observe, requested := none, drainTarget := none } ∧
    t.incidents.queue.map (fun r => (r.kind, r.detail)) = [(.holdExpired, 0), (.modeChanged, 1)] ∧
    t.returnQueue.map (fun r => r.status) = [.expired] := by decide

theorem test_frameOutPulseEnd :
    frameOutHigh (after .frameOutPulseEnd (after .syncInArrival (inGap .straight 30 8))) = false := by decide

/-- The eight refills of 3.10: base 10, fraction 3, carry beats at the 3rd, 6th and 8th (R48). -/
theorem test_refills :
    ((List.range 8).map fun k =>
      (Nat.repeat (fun c : Credit => c.refill (part 1 10 3 0 1)) (k + 1) Credit.zero).granted) =
      [10, 10, 11, 10, 10, 11, 10, 11] := by decide

/-- The floor of R51. -/
theorem test_charge_floor :
    Credit.charge { granted := 12, remaining := -65530, charged := 65542, fraction := 0 } 16 =
      { granted := 12, remaining := -65536, charged := 65548, fraction := 0 } := by decide

/-! ## The memory path -/

theorem test_requestArrival :
    (after (.requestArrival (request 5 17 3)) State.reset).presented = some (request 5 17 3) := by decide

/-- The first taking of 5.7: 5/17 passes at index 0. -/
theorem test_taking_straight :
    let t := after .taking { State.reset with presented := some (request 5 17 3) }
    t.presented = none ∧ t.offer.map (fun o => o.mtag) = some 0 ∧ openCount t = 1 := by decide

/-- The thirteenth arrival of 6.9: STORE_FULL needs 48 entries; here the queue limit refuses (R94). -/
theorem test_taking_queueFull :
    let s := { running .enforce .free 0 3 with
      presented := some (request 0 9 3), hold := queues [entry 0 1 0 0 7, entry 0 2 0 0 7] [] }
    (after .taking s).returnQueue.map (fun r => r.status) = [.refused] ∧
    (after .taking s).incidents.queue.map (fun r => (r.kind, r.detail)) = [(.queueFull, 2)] := by decide

/-- The first release of 7.11: with the pointer at 7, P0 goes first, and is charged. -/
theorem test_release :
    let t := after .release holding
    t.pointer = 0 ∧ t.credit[0].remaining = 19 ∧ t.hold[0] = [] ∧ t.offer.map (fun o => o.requester) = some 0 := by
  decide

/-- The last release of a drain ends it (12.5). -/
theorem test_release_drain :
    let t := after .release { running .draining .free 0 3 with hold := queues [] [entry 1 2 15 1 7] }
    t.mode.inForce = .observe ∧ t.credit[1].remaining = 4 ∧
    t.incidents.queue.map (fun r => (r.kind, r.detail)) = [(.modeChanged, 1)] := by decide

theorem test_acceptance : (after .acceptance offering).offer = none := by decide

/-- Tick 40 of 8.10: a READ answered with another number of beats is malformed. -/
theorem test_responseArrival_malformed :
    let t := after (.responseArrival (response 0 .ok 6)) (awaiting 9)
    t.returnQueue.map (fun r => (r.status, r.data)) = [(.memError, [])] ∧ t.ott[0] = .free ∧
    t.incidents.queue.map (fun r => (r.kind, r.detail)) = [(.malformedResponse, 6)] := by decide

/-- Tick 300 of 8.10: the late response frees the entry and answers nobody. -/
theorem test_responseArrival_late :
    let t := after (.responseArrival (response 0 .ok 4)) quarantined
    t.returnQueue = [] ∧ t.ott[0] = .free ∧
    t.incidents.queue.map (fun r => (r.kind, r.addr)) = [(.lateResponse, none)] := by decide

/-- Tick 256 of 8.10: the entry goes into quarantine and the requester is answered TIMEOUT. -/
theorem test_deadlineExpiry :
    let t := after .deadlineExpiry (awaiting 0)
    t.returnQueue.map (fun r => r.status) = [.timeout] ∧ expiredCount t = 1 ∧ t.stats[0].timedOut = 1 := by decide +kernel

theorem test_responseDelivery :
    (after .responseDelivery { State.reset with returnQueue := [UpResponse.bare 5 17 .refused] }).returnQueue = [] := by
  decide

/-- The assertion of DRST_N aborts what is at memory (R132). -/
theorem test_drstNAssertion :
    let t := after .drstNAssertion offering
    t.offer = none ∧ openCount t = 0 ∧ t.returnQueue.map (fun r => r.status) = [.aborted] ∧
    t.incidents.queue.map (fun r => (r.kind, r.detail)) = [(.downstreamReset, 1)] := by decide

theorem test_drstNDeassertion : after .drstNDeassertion inMemoryReset = State.reset := by decide

/-! ## Resets -/

theorem test_pinReset : after .pinReset holding = inReset := by decide

/-- A response still presented at the end of pin reset is stray (R165). -/
theorem test_rstNDeassertion :
    let t := after .rstNDeassertion { inReset with memPresented := some (response 4 .ok 0) }
    t.pins.rst = false ∧ t.incidents.queue.map (fun r => (r.kind, r.frame)) = [(.strayResponse, none)] := by decide

/-! ## The Configuration Link -/

theorem test_csNAssertion : after .csNAssertion State.reset = receiving false := by decide

/-- The bits of the NOP reply after pin reset, 00h 00h D7h and FFh, the most significant first (R150, R162). -/
theorem test_miso_bits :
    (List.range 28).map (misoBit (receiving false)) =
      (List.replicate 16 (some false) ++
        [some true, some true, some false, some true, some false, some true, some true, some true] ++
        List.replicate 4 (some true)) ∧
    misoBit State.reset 0 = none := by decide +kernel

theorem test_csNDeassertion :
    after (.csNDeassertion (bitsOfBytes [0x00, 0x00, 0xD7])) (receiving false) =
      { executing .nop with link := { (executing .nop).link with buffer := [0x00, 0x00, 0xD7] } } := by
  decide +kernel

/-- An early transaction fails the framing check (R154). -/
theorem test_csNDeassertion_early :
    (after (.csNDeassertion [true]) (receiving true)).link.reply = replyOf .framingError := by decide +kernel

theorem test_nop : replied .ok [] (after .nop (executing .nop)) := by decide

theorem test_readStatus : (statusBytes State.reset).length = 34 ∧
    replied .ok (statusBytes State.reset) (after .readStatus State.reset) := ⟨by decide, rfl⟩

theorem test_readSettings : replied .ok [49, 0, 0, 0, 63, 0, 0, 1, 1] (after .readSettings State.reset) := by decide

/-- Step 1 of 12.1.1. -/
theorem test_writeSettings : (after (.writeSettings 49 0 0 3 0 0 1 1) State.reset).settings.deadline = 3 := by decide

theorem test_readPhases : replied .ok (2 :: [0, 3, 0, 2, 0, 0, 0, 0, 0, 0, 0, 0, 0, 0, 0, 0])
    (after (.readPhases 0) stopped) := by decide

theorem test_writePhases : (after (.writePhases 1 2 demo.lengths) stopped).banks.bank1.contents.phaseCount = 2 := by
  decide

theorem test_readPartition : replied .ok [1, 3, 0, 20, 3, 2, 1] (after (.readPartition 0 0) stopped) := by decide

/-- A write puts a READY bank in EDITING (R26). -/
theorem test_writePartition :
    (after (.writePartition 0 7 0 0 0 0 0 0) stopped).banks.bank0 = { contents := demo, state := .editing } := by decide

theorem test_readMap : replied .ok [0, 1, 0xFF] (after (.readMap 0 0 3) stopped) := by decide

theorem test_writeMap :
    (after (.writeMap 1 62 2 [5, 0xFF]) stopped).banks.bank1.contents.map.toList.drop 61 = [none, some 5, none] := by
  decide

theorem test_copyBank :
    (after (.copyBank 0 1) stopped).banks.bank1 = { contents := demo, state := .editing } := by decide

/-- The bank of 2.14 at its first CLOSE_BANK: check 3 fails at P1. -/
theorem test_closeBank :
    replied .checkFailed [3, 1]
      (after (.closeBank 1) { stopped with banks := { stopped.banks with
        bank1 := { contents := { demo with parts := demo.parts.set 1 (part 8 8 0 16 0) }, state := .editing } } }) := by
  decide

theorem test_requestSwitch :
    let t := after (.requestSwitch 0) stopped
    t.seq.frame = 0 ∧ t.seq.phase = some 0 ∧ t.banks.framesInBank = 1 ∧ t.banks.bank0.state = .active ∧
    t.credit[0].granted = 20 := by decide

theorem test_cancelSwitch : replied .nothingPending [] (after .cancelSwitch stopped) := by decide

theorem test_setMode :
    (after (.setMode 2) (running .straight .free 0 3)).mode.requested = some .enforce ∧
    replied .modeRefused [] (after (.setMode 2) stopped) := by decide

theorem test_stopSchedule :
    let t := after .stopSchedule (running .straight .free 0 3)
    t.seq.state = .stopped ∧ t.seq.frame = 7 ∧ t.banks.bank0.state = .ready ∧ t.credit[0].granted = 0 := by decide

theorem test_takeIncident :
    (after .takeIncident reported).incidents.queue = [] ∧ alertAsserted reported = true ∧
    alertAsserted (after .takeIncident reported) = false := by decide

theorem test_readStatistics :
    (statisticsBytes Stats.zero Credit.zero).length = 31 ∧
    replied .ok (statisticsBytes Stats.zero (full 20)) (after (.readStatistics 3) (running .straight .free 0 3)) :=
  ⟨by decide, by decide⟩

theorem test_clearStatistics :
    (after .clearStatistics (after .deadlineExpiry (awaiting 0))).stats[0] = Stats.zero := by decide +kernel

theorem test_readTransactions :
    replied .ok [1, 0, 1, 3, 40, 0, 0, 0, 0, 40, 4, 0xFF, 0, 0] (after (.readTransactions 0) quarantined) := by decide

/-- The flush of 12.4 frees one entry. -/
theorem test_flushQuarantine :
    replied .ok [1] (after .flushQuarantine quarantined) ∧ expiredCount (after .flushQuarantine quarantined) = 0 := by
  decide

theorem test_resetRegulator :
    let t := after .resetRegulator holding
    t.seq.state = .stopped ∧ t.mode.inForce = .straight ∧ storeCount t = 0 ∧
    t.returnQueue.map (fun r => (r.status, r.tag)) = [(.aborted, 1), (.aborted, 2)] := by decide

theorem test_endOfExecution :
    (after .endOfExecution (after .cancelSwitch stopped)).link.reply = replyOf .nothingPending := by decide

/-! ## Witnesses: states that meet the hypotheses of the statements, clause by clause -/

theorem inv_reset : Inv State.reset := by constructor <;> decide +kernel

theorem inv_running : Inv (running .straight .free 0 0) := by constructor <;> decide +kernel

theorem inv_holding : Inv holding := by constructor <;> decide +kernel

theorem witness_ExpiriesHandledFirst :
    ∃ (c : Instr) (s : State), Inv s ∧ quiet s = false ∧ c ≠ .pinReset ∧ c ≠ .phaseExpiry ∧ c ≠ .guardExpiry ∧
      c ≠ .deadlineExpiry :=
  ⟨.tick, running .straight .free 0 0, inv_running, by decide⟩

theorem witness_RefclkPeriodsPerTick :
    ∃ s : State, Calm s ∧ s.pending = [] ∧ s.divider = 0 ∧ 1599 < (s.settings.prescale.val + 1) * 32 :=
  ⟨State.reset, by decide⟩

theorem witness_TickCounted :
    (∃ s : State, quiet s = true ∧ s.pins.rst = true) ∧ (∃ s : State, quiet s = true ∧ s.pins.rst = false) :=
  ⟨⟨inReset, by decide⟩, ⟨State.reset, by decide⟩⟩

theorem witness_PhaseExpiryWithoutFrameStart :
    (∃ (s : State) (p n : Phase), s.seq.state = .running ∧ s.seq.ticksLeft = 0 ∧ s.seq.phase = some p ∧
      n.val = p.val + 1 ∧ n.val < s.banks.inForce.phaseCount.val) ∧
    (∃ (s : State) (p : Phase), s.seq.state = .running ∧ s.seq.ticksLeft = 0 ∧ s.seq.phase = some p ∧
      s.banks.inForce.phaseCount.val = p.val + 1 ∧ s.settings.syncMode = .follow) :=
  ⟨⟨running .straight .free 0 0, 0, 1, by decide⟩, ⟨running .straight .follow 1 0, 1, by decide⟩⟩

theorem witness_LastPhaseStartsFrame :
    ∃ (s : State) (p : Phase), s.seq.state = .running ∧ s.seq.ticksLeft = 0 ∧ s.seq.phase = some p ∧
      s.banks.inForce.phaseCount.val ≤ p.val + 1 ∧ s.settings.syncMode = .free :=
  ⟨running .straight .free 1 0, 1, by decide⟩

theorem witness_GuardExpiryStartsFrame :
    (∃ s : State, s.seq.state = .gap ∧ s.seq.guardInForce = 1 ∧ s.seq.gapElapsed = 1 ∧ s.incidents.queue = []) ∧
    (∃ s : State, s.seq.state = .gap ∧ s.seq.guardInForce = 65535 ∧ s.seq.gapElapsed = 65535) :=
  ⟨⟨inGap .straight 1 1, by decide⟩, ⟨inGap .straight 65535 65535, by decide⟩⟩

theorem witness_ExpiryNotDueChangesNothing :
    (∃ s : State, ¬ (s.seq.state = .running ∧ s.seq.ticksLeft = 0) ∧ s.seq.ticksLeft = 1) ∧
    (∃ s : State, s.seq.state = .gap ∧ s.seq.guardInForce = 0) ∧
    (∃ s : State, s.seq.state = .gap ∧ ¬ s.seq.guardInForce ≤ s.seq.gapElapsed) ∧
    (∃ s : State, dueEntries s = [] ∧ openCount s = 1) :=
  ⟨⟨running .straight .free 0 1, by decide⟩, ⟨inGap .straight 0 9, by decide⟩, ⟨inGap .straight 5 4, by decide⟩,
    ⟨awaiting 1, by decide⟩⟩

theorem witness_SyncInIgnoredOrEndsGap :
    (∃ s : State, quiet s = true ∧ s.seq.state = .stopped ∧ s.settings.syncMode = .follow) ∧
    (∃ s : State, quiet s = true ∧ s.seq.state = .running ∧ s.settings.syncMode = .free) ∧
    (∃ s : State, quiet s = true ∧ s.seq.state = .gap ∧ s.settings.syncMode = .follow) :=
  ⟨⟨{ stopped with settings := { Settings.reset with syncMode := .follow } }, by decide⟩,
    ⟨running .straight .free 0 3, by decide⟩, ⟨inGap .straight 0 3, by decide⟩⟩

theorem witness_SyncInCutsFrame :
    ∃ s : State, quiet s = true ∧ s.seq.state = .running ∧ s.settings.syncMode = .follow ∧ s.seq.ticksLeft = 1 ∧
      s.incidents.queue = [] :=
  ⟨running .straight .follow 0 1, by decide⟩

theorem witness_FrameOutPulseEnds : ∃ s : State, quiet s = true ∧ frameOutHigh s = true :=
  ⟨{ State.reset with frameOutLeft := 1 }, by decide⟩

theorem witness_BankDecisionAtFrameStart :
    (∃ s : State, s.banks.active = some .bank0 ∧ s.seq.firstPending = true) ∧
    (∃ s : State, s.banks.active = some .bank0 ∧ s.seq.firstPending = false ∧ s.banks.pendingSwitch = none ∧
      s.settings.alternation = true ∧ s.banks.framesInBank ≠ 2 ^ s.settings.exponent.val) ∧
    (∃ s : State, s.banks.active = some .bank0 ∧ s.seq.firstPending = false ∧ s.banks.pendingSwitch = none ∧
      s.settings.alternation = false ∧ s.banks.framesInBank = 65535) ∧
    (∃ s : State, s.banks.active = some .bank0 ∧ s.seq.firstPending = false ∧ s.banks.pendingSwitch ≠ none ∧
      (s.banks.get BankId.bank0.other).state ≠ .ready) ∧
    (∃ s : State, s.banks.active = some .bank0 ∧ s.seq.firstPending = false ∧ s.settings.alternation = true ∧
      s.banks.framesInBank = 2 ^ s.settings.exponent.val ∧ (s.banks.get BankId.bank0.other).state = .ready) ∧
    (∃ (u : State) (b : BankId), (u.banks.get b).state = .editing) :=
  ⟨⟨switching true false 0 0 none .ready, by decide⟩, ⟨switching false true 7 127 none .ready, by decide⟩,
    ⟨switching false false 0 65535 none .ready, by decide⟩, ⟨switching false false 0 3 (some .bank1) .editing, by decide⟩,
    ⟨switching false true 7 128 none .ready, by decide⟩, ⟨State.reset, .bank1, by decide⟩⟩

/-- A RUNNING state with a mode requested, and an entry held or none. -/
def asking (m r : Mode) (held : Bool) : State :=
  { running m .free 0 3 with
    mode := { (running m .free 0 3).mode with requested := some r }
    hold := queues [] (if held then [entry 1 2 15 1 7] else []) }

theorem witness_RequestedModeTaken :
    (∃ s : State, s.mode.requested = none) ∧
    (∃ s : State, s.mode.requested = some .observe ∧ s.mode.inForce = .straight) ∧
    (∃ s : State, s.mode.requested = some .enforce ∧ s.mode.inForce = .draining) ∧
    (∃ s : State, s.mode.requested = some .straight ∧ s.mode.inForce = .enforce ∧ ∀ p : Partition, s.hold[p] = []) ∧
    (∃ s : State, s.mode.requested = some .straight ∧ s.mode.inForce = .enforce ∧ ∃ p : Partition, s.hold[p] ≠ []) ∧
    (∃ s : State, s.mode.requested = some .straight ∧ s.mode.inForce = .draining ∧ ModeLaw s) :=
  ⟨⟨State.reset, by decide⟩, ⟨asking .straight .observe false, by decide⟩, ⟨asking .draining .enforce true, by decide⟩,
    ⟨asking .enforce .straight false, by decide⟩, ⟨asking .enforce .straight true, by decide⟩,
    ⟨asking .draining .straight true, by decide⟩⟩

theorem witness_ModeSameInEveryOrder :
    (∃ s : State, ModeLaw s ∧ s.mode.inForce = .draining ∧ s.mode.requested = some .enforce) ∧
    (∃ s : State, ModeLaw s ∧ s.mode.inForce = .enforce ∧ s.mode.requested = some .straight) :=
  ⟨⟨asking .draining .enforce true, by decide⟩, ⟨asking .enforce .straight true, by decide⟩⟩

theorem witness_HoldExpiryAtFrameStart :
    (∃ s : State, ¬ (s.mode.inForce = .draining ∧ departures s ≠ [] ∧
      ∀ p : Partition, (holdReaction s).hold[p] = []) ∧ (departures s).length = 1) ∧
    (∃ (s : State) (m : Mode), s.mode.inForce = .draining ∧ departures s ≠ [] ∧
      (∀ p : Partition, (holdReaction s).hold[p] = []) ∧ s.mode.drainTarget = some m ∧ m ≠ .draining ∧
      s.banks.inForce.parts[(7 : Partition)].enabled = false) ∧
    (∃ (s : State) (m : Mode), s.mode.inForce = .draining ∧ departures s ≠ [] ∧
      (∀ p : Partition, (holdReaction s).hold[p] = []) ∧ s.mode.drainTarget = some m ∧ m ≠ .draining ∧
      s.banks.inForce.parts[(0 : Partition)].enabled = true) :=
  ⟨⟨{ draining 0 6 with mode := { inForce := .enforce, requested := none, drainTarget := none } },
      by decide +kernel⟩,
    ⟨draining 7 7, .observe, by decide +kernel⟩, ⟨draining 0 6, .observe, by decide +kernel⟩⟩

theorem witness_EightRefillsGrantFraction :
    (∃ r : PartRecord, r.enabled = true ∧ r.budgetFraction = 0) ∧
    (∃ r : PartRecord, r.enabled = true ∧ r.budgetFraction = 7 ∧ r.budgetBase = 4095) :=
  ⟨⟨part 1 0 0 0 0, by decide⟩, ⟨part 1 4095 7 0 0, by decide⟩⟩

theorem witness_RequesterPortHandshakes :
    (∃ s : State, quiet s = true ∧ s.presented = none ∧ s.returnQueue = []) ∧
    (∃ s : State, quiet s = true ∧ s.presented ≠ none) ∧
    (∃ (s : State) (r : UpResponse), quiet s = true ∧ s.returnQueue = r :: []) :=
  ⟨⟨State.reset, by decide⟩, ⟨{ State.reset with presented := some (request 5 17 3) }, by decide⟩,
    ⟨{ State.reset with returnQueue := [UpResponse.bare 5 17 .refused] }, UpResponse.bare 5 17 .refused, by decide⟩⟩

/-- A state with a request at the port. -/
def presenting (s : State) (q : Request) : State := { s with presented := some q }

theorem witness_TakingAndReleaseWait :
    (∃ s : State, quiet s = true ∧ s.presented = none) ∧
    (∃ s : State, quiet s = true ∧ s.presented ≠ none ∧ ¬ Takeable s) ∧
    (∃ s : State, quiet s = true ∧ ¬ ReleaseReady s) ∧
    (∃ s : State, quiet s = true ∧ ReleaseReady s ∧ ∀ p : Partition, ¬ Eligible s p) :=
  ⟨⟨State.reset, by decide⟩, ⟨presenting offering (request 5 17 3), by decide +kernel⟩, ⟨inMemoryReset, by decide⟩,
    ⟨State.reset, by decide +kernel⟩⟩

theorem witness_TakingRefusesDuplicate :
    (∃ (s : State) (q : Request), quiet s = true ∧ s.presented = some q ∧ Takeable s ∧
      (q.requester, q.tag) ∈ liveKeys s ∧ s.mode.inForce = .straight) ∧
    (∃ (s : State) (q : Request), quiet s = true ∧ s.presented = some q ∧ Takeable s ∧
      (q.requester, q.tag) ∈ liveKeys s ∧ s.mode.inForce = .enforce) :=
  ⟨⟨presenting (awaiting 9) (request 3 40 0), request 3 40 0, by decide +kernel⟩,
    ⟨presenting holding (request 0 1 0), request 0 1 0, by decide +kernel⟩⟩

theorem witness_TakingPassesInStraight :
    ∃ (s : State) (q : Request) (i : OttIndex), quiet s = true ∧ s.presented = some q ∧ Takeable s ∧
      s.mode.inForce = .straight ∧ (q.requester, q.tag) ∉ liveKeys s ∧ LowestFree s i :=
  ⟨presenting (awaiting 9) (request 3 41 0), request 3 41 0, 1, by decide +kernel⟩

theorem witness_TakingPassesInObserve :
    (∃ (s : State) (q : Request) (i : OttIndex), quiet s = true ∧ s.presented = some q ∧ Takeable s ∧
      s.mode.inForce = .observe ∧ (q.requester, q.tag) ∉ liveKeys s ∧ LowestFree s i ∧
      s.banks.inForce.map[q.requester] = none) ∧
    (∃ (s : State) (q : Request) (i : OttIndex), quiet s = true ∧ s.presented = some q ∧ Takeable s ∧
      s.mode.inForce = .observe ∧ (q.requester, q.tag) ∉ liveKeys s ∧ LowestFree s i ∧
      s.banks.inForce.map[q.requester] = some 1) :=
  ⟨⟨presenting (running .observe .free 0 3) (request 63 255 15), request 63 255 15, 0, by decide +kernel⟩,
    ⟨presenting (running .observe .free 0 3) (request 1 0 15), request 1 0 15, 0, by decide +kernel⟩⟩

/-- ENFORCE with `n` entries held for P0 and `m` for P1. -/
def crowded (n m : Nat) : State :=
  { running .enforce .free 0 3 with
    hold := queues ((List.range n).map fun k => entry 0 (BitVec.ofNat 8 k) 0 0 7)
      ((List.range m).map fun k => entry 1 (BitVec.ofNat 8 k) 0 1 7) }

theorem witness_AdmissionRefuses :
    (∃ (s : State) (q : Request), quiet s = true ∧ s.presented = some q ∧ Takeable s ∧ s.mode.inForce = .enforce ∧
      (q.requester, q.tag) ∉ liveKeys s ∧ s.banks.inForce.map[q.requester] = none) ∧
    (∃ (s : State) (q : Request), quiet s = true ∧ s.presented = some q ∧ Takeable s ∧ s.mode.inForce = .enforce ∧
      (q.requester, q.tag) ∉ liveKeys s ∧ s.banks.inForce.map[q.requester] = some 0 ∧
      s.banks.inForce.parts[(0 : Partition)].queueLimit.val = s.hold[(0 : Partition)].length) ∧
    (∃ (s : State) (q : Request), quiet s = true ∧ s.presented = some q ∧ Takeable s ∧ s.mode.inForce = .enforce ∧
      (q.requester, q.tag) ∉ liveKeys s ∧ s.banks.inForce.map[q.requester] = some 1 ∧
      s.hold[(1 : Partition)].length < s.banks.inForce.parts[(1 : Partition)].queueLimit.val ∧ storeCount s = 48) :=
  ⟨⟨presenting (crowded 1 0) (request 9 200 0), request 9 200 0, by decide +kernel⟩,
    ⟨presenting (crowded 2 0) (request 0 200 0), request 0 200 0, by decide +kernel⟩,
    ⟨presenting (crowded 47 1) (request 1 200 0), request 1 200 0, by decide +kernel⟩⟩

theorem witness_AdmissionAdmits :
    ∃ (s : State) (q : Request), quiet s = true ∧ s.presented = some q ∧ Takeable s ∧ s.mode.inForce = .enforce ∧
      (q.requester, q.tag) ∉ liveKeys s ∧ s.banks.inForce.map[q.requester] = some 1 ∧
      s.hold[(1 : Partition)].length < s.banks.inForce.parts[(1 : Partition)].queueLimit.val ∧ storeCount s = 47 :=
  ⟨presenting (crowded 46 1) (request 1 200 0), request 1 200 0, by decide +kernel⟩

theorem witness_ReleaseMovesHead :
    (∃ (s : State) (p : Partition) (i : OttIndex) (e : HeldEntry), quiet s = true ∧ s.offer = none ∧
      s.pins.drst = false ∧ LowestFree s i ∧ Eligible s p ∧
      (∀ j : Partition, rank s.pointer j < rank s.pointer p → ¬ Eligible s j) ∧ s.hold[p] = e :: [] ∧
      e.partition = p ∧ s.mode.inForce = .enforce) ∧
    (∃ (s : State) (p : Partition) (i : OttIndex) (e : HeldEntry), quiet s = true ∧ s.offer = none ∧
      s.pins.drst = false ∧ LowestFree s i ∧ Eligible s p ∧
      (∀ j : Partition, rank s.pointer j < rank s.pointer p → ¬ Eligible s j) ∧ s.hold[p] = e :: [] ∧
      e.partition = p ∧ s.mode.inForce = .draining ∧ (∀ q : Partition, q ≠ p → s.hold[q] = []) ∧
      s.mode.drainTarget = some .observe) :=
  ⟨⟨holding, 0, 0, entry 0 1 0 0 7, by decide +kernel⟩,
    ⟨{ running .draining .free 0 3 with hold := queues [] [entry 1 2 15 1 7] }, 1, 0, entry 1 2 15 1 7,
      by decide +kernel⟩⟩

theorem witness_EnforceReleasesInWindowAndCredit :
    ∃ s t : State, Inv s ∧ quiet s = true ∧ s.mode.inForce = .enforce ∧ exec .release s = .next t ∧ s.offer = none ∧
      t.offer ≠ none :=
  ⟨holding, releaseHead (settle holding), inv_holding, by decide, by decide, rfl, by decide, by decide +kernel⟩

theorem witness_EligiblePartitionWaitsAtMostSeven :
    ∃ (s : State) (p : Partition), Eligible s p ∧ rank s.pointer p = 7 :=
  ⟨{ holding with pointer := 0 }, 0, by decide +kernel⟩

theorem witness_AcceptanceEmptiesSlot :
    (∃ s : State, quiet s = true ∧ s.offer = none) ∧ (∃ s : State, quiet s = true ∧ s.offer ≠ none) :=
  ⟨⟨State.reset, by decide⟩, ⟨offering, by decide⟩⟩

theorem witness_ResponseNotForwarded :
    (∃ s : State, quiet s = true ∧ s.pins.rst = true ∧ s.memPresented = none) ∧
    (∃ s : State, quiet s = true ∧ s.pins.rst = true ∧ s.memPresented ≠ none) ∧
    (∃ s : State, quiet s = true ∧ s.pins.rst = false ∧ s.pins.drst = true) ∧
    (∃ (s : State) (r : Response), quiet s = true ∧ s.pins.rst = false ∧ s.pins.drst = false ∧
      (s.offer.any fun o => o.mtag == r.mtag) = true) ∧
    (∃ (s : State) (r : Response), quiet s = true ∧ s.pins.rst = false ∧ s.pins.drst = false ∧
      s.ott[r.mtag] = .free) ∧
    (∃ (s : State) (r : Response) (t : Transaction), quiet s = true ∧ s.pins.rst = false ∧ s.pins.drst = false ∧
      (s.offer.any fun o => o.mtag == r.mtag) = false ∧ s.ott[r.mtag] = .expired t) :=
  ⟨⟨inReset, by decide⟩, ⟨{ inReset with memPresented := some (response 4 .ok 0) }, by decide⟩,
    ⟨inMemoryReset, by decide⟩, ⟨offering, response 0 .ok 0, by decide⟩, ⟨State.reset, response 31 .ok 0, by decide⟩,
    ⟨quarantined, response 0 .ok 0, transaction .read 40 none false, by decide⟩⟩

/-- One OPEN entry of a kind. -/
def awaitingKind (k : Kind) : State :=
  { State.reset with ott := State.reset.ott.set 0 (.opened (transaction k 40 none false) 9) }

theorem witness_ResponseForwarded :
    (∃ (s : State) (r : Response) (t : Transaction) (n : Nat), Calm s ∧ s.pins.drst = false ∧
      (s.offer.any fun o => o.mtag == r.mtag) = false ∧ s.ott[r.mtag] = .opened t n ∧ r.status = .error) ∧
    (∃ (s : State) (r : Response) (t : Transaction) (n : Nat), Calm s ∧ s.pins.drst = false ∧
      (s.offer.any fun o => o.mtag == r.mtag) = false ∧ s.ott[r.mtag] = .opened t n ∧ r.status = .ok ∧
      t.kind = .read ∧ r.beatCount.val = t.lenLess1.val + 1) ∧
    (∃ (s : State) (r : Response) (t : Transaction) (n : Nat), Calm s ∧ s.pins.drst = false ∧
      (s.offer.any fun o => o.mtag == r.mtag) = false ∧ s.ott[r.mtag] = .opened t n ∧ r.status = .ok ∧
      t.kind = .read ∧ r.beatCount.val = 31) ∧
    (∃ (s : State) (r : Response) (t : Transaction) (n : Nat), Calm s ∧ s.pins.drst = false ∧
      (s.offer.any fun o => o.mtag == r.mtag) = false ∧ s.ott[r.mtag] = .opened t n ∧ r.status = .ok ∧
      t.kind = .write ∧ r.beatCount.val = 0) ∧
    (∃ (s : State) (r : Response) (t : Transaction) (n : Nat), Calm s ∧ s.pins.drst = false ∧
      (s.offer.any fun o => o.mtag == r.mtag) = false ∧ s.ott[r.mtag] = .opened t n ∧ r.status = .ok ∧
      t.kind = .write ∧ r.beatCount.val = 1) :=
  ⟨⟨awaitingKind .read, response 0 .error 0, transaction .read 40 none false, 9, by decide⟩,
    ⟨awaitingKind .read, response 0 .ok 4, transaction .read 40 none false, 9, by decide⟩,
    ⟨awaitingKind .read, response 0 .ok 31, transaction .read 40 none false, 9, by decide⟩,
    ⟨awaitingKind .write, response 0 .ok 0, transaction .write 40 none false, 9, by decide⟩,
    ⟨awaitingKind .write, response 0 .ok 1, transaction .write 40 none false, 9, by decide⟩⟩

theorem witness_MemorySideReset :
    (∃ s : State, quiet s = true ∧ s.pins.drst = true) ∧
    (∃ s : State, quiet s = true ∧ s.pins.drst = false ∧ s.pins.rst = true) ∧
    (∃ s : State, quiet s = true ∧ s.pins.drst = false ∧ s.pins.rst = false ∧ openCount s = 1) :=
  ⟨⟨inMemoryReset, by decide⟩, ⟨inReset, by decide⟩, ⟨offering, by decide⟩⟩

theorem witness_AcceptanceAndResetEitherOrder :
    ∃ s a b c d : State, Calm s ∧ s.pins.drst = false ∧ exec .acceptance s = .next a ∧
      exec .drstNAssertion a = .next b ∧ exec .drstNAssertion s = .next c ∧ exec .acceptance c = .next d ∧
      s.offer ≠ none :=
  ⟨offering, accept (settle offering), drstAssert (settle (accept (settle offering))), drstAssert (settle offering),
    accept (settle (drstAssert (settle offering))), by decide, by decide, rfl, rfl, rfl, rfl, by decide⟩

theorem witness_TransactionBegins :
    (∃ s : State, quiet s = true ∧ s.pins.cs = true) ∧
    (∃ s : State, quiet s = true ∧ s.pins.cs = false ∧ s.pins.rst = true) ∧
    (∃ s : State, Calm s ∧ s.pins.cs = false ∧ s.link.state = .idle) ∧
    (∃ s : State, Calm s ∧ s.pins.cs = false ∧ s.link.state = .executing (.command .nop)) :=
  ⟨⟨receiving false, by decide⟩, ⟨inReset, by decide⟩, ⟨State.reset, by decide⟩, ⟨executing .nop, by decide⟩⟩

theorem witness_TransactionEnds :
    (∃ s : State, quiet s = true ∧ s.pins.cs = false) ∧
    (∃ s : State, quiet s = true ∧ s.pins.cs = true ∧ s.link.state = .idle) ∧
    (∃ (s : State) (mosi : List Bool), quiet s = true ∧ s.pins.cs = true ∧ s.link.state = .receiving true ∧
      mosi ≠ []) ∧
    (∃ (s : State) (mosi : List Bool), quiet s = true ∧ s.pins.cs = true ∧ s.link.state = .receiving false ∧
      mosi ≠ [] ∧ checkFrame (groupBits mosi).1 (groupBits mosi).2 = .error .framingError) ∧
    (∃ (s : State) (mosi : List Bool), quiet s = true ∧ s.pins.cs = true ∧ s.link.state = .receiving false ∧
      mosi ≠ [] ∧ checkFrame (groupBits mosi).1 (groupBits mosi).2 = .sound .nop) :=
  ⟨⟨State.reset, by decide⟩, ⟨{ State.reset with pins := { State.reset.pins with cs := true } }, by decide⟩,
    ⟨receiving true, [true], by decide⟩, ⟨receiving false, [true], by decide⟩,
    ⟨receiving false, bitsOfBytes [0x00, 0x00, 0xD7], by decide +kernel⟩⟩

theorem witness_FrameSentIsCommandExecuted :
    (∃ (s : State) (c : LinkCommand), quiet s = true ∧ s.pins.cs = true ∧ s.link.state = .receiving false ∧
      argsInRange c = true ∧ c.wf = true ∧ (commandArgs c).length = 67) ∧
    (∃ (s : State) (c : LinkCommand), quiet s = true ∧ s.pins.cs = true ∧ s.link.state = .receiving false ∧
      argsInRange c = true ∧ c.wf = true ∧ (commandArgs c).length = 0) :=
  ⟨⟨receiving false, .writeMap 1 0 64 (List.replicate 64 0xFF), by decide +kernel⟩,
    ⟨receiving false, .resetRegulator, by decide⟩⟩

theorem witness_ExecutionEnds :
    (∃ (s : State) (r : Reply), quiet s = true ∧ s.link.state = .executing (.replying r)) ∧
    (∃ (s : State) (c : LinkCommand), quiet s = true ∧ s.link.state = .executing (.command c) ∧
      s.pins.rst = false ∧ s.pins.cs = false) ∧
    (∃ s : State, quiet s = true ∧ s.link.state = .idle) ∧
    (∃ s : State, quiet s = true ∧ s.link.state = .receiving true) :=
  ⟨⟨after .cancelSwitch stopped, replyOf .nothingPending, by decide⟩, ⟨executing .takeIncident, .takeIncident, by decide⟩,
    ⟨State.reset, by decide⟩, ⟨receiving true, by decide⟩⟩

theorem witness_CommandRowWaitsItsTurn :
    (∃ s : State, quiet s = true ∧ s.pins.rst = true) ∧ (∃ s : State, quiet s = true ∧ s.pins.cs = true) ∧
    (∃ (c : LinkCommand) (s : State), Calm s ∧ s.pins.cs = false ∧ s.link.state ≠ .executing (.command c) ∧
      s.link.state = .executing (.command .nop)) :=
  ⟨⟨inReset, by decide⟩, ⟨receiving false, by decide⟩, ⟨.takeIncident, executing .nop, by decide⟩⟩

theorem witness_BadArgumentChangesNothing :
    (∃ (c : LinkCommand) (s : State), LinkFree c s ∧ argsInRange c = false ∧ c = .setMode 3) ∧
    (∃ (c : LinkCommand) (s : State), LinkFree c s ∧ argsInRange c = false ∧ c = .writeMap 0 63 2 [0, 0]) ∧
    (∃ (c : LinkCommand) (s : State), LinkFree c s ∧ argsInRange c = false ∧ c = .readTransactions 32) :=
  ⟨⟨.setMode 3, executing (.setMode 3), by decide⟩, ⟨.writeMap 0 63 2 [0, 0], State.reset, by decide⟩,
    ⟨.readTransactions 32, State.reset, by decide⟩⟩

theorem witness_RefusedCommandChangesNothing :
    ∃ (c : LinkCommand) (s t : State), LinkFree c s ∧ exec c.row s = .next t ∧
      t.link.state = .executing (.replying { status := .nothingPending, bytes := [] }) :=
  ⟨.cancelSwitch, stopped, runCommand .cancelSwitch (settle stopped), by decide, rfl, by decide⟩

theorem witness_ReadsReportAndChangeNothing :
    (∃ (c : LinkCommand) (s : State), LinkFree c s ∧ readReply c s = some [] ∧ c = .nop) ∧
    (∃ (c : LinkCommand) (s : State), LinkFree c s ∧ (readReply c s).map List.length = some 34) ∧
    (∃ (c : LinkCommand) (s : State), LinkFree c s ∧ (readReply c s).map List.length = some 9) ∧
    (∃ (c : LinkCommand) (s : State), LinkFree c s ∧ (readReply c s).map List.length = some 17) ∧
    (∃ (c : LinkCommand) (s : State), LinkFree c s ∧ (readReply c s).map List.length = some 7) ∧
    (∃ (c : LinkCommand) (s : State), LinkFree c s ∧ (readReply c s).map List.length = some 64) ∧
    (∃ (c : LinkCommand) (s : State), LinkFree c s ∧ (readReply c s).map List.length = some 31) ∧
    (∃ (c : LinkCommand) (s : State), LinkFree c s ∧ (readReply c s).map List.length = some 14) :=
  ⟨⟨.nop, State.reset, by decide⟩, ⟨.readStatus, State.reset, by decide⟩, ⟨.readSettings, State.reset, by decide⟩,
    ⟨.readPhases 1, State.reset, by decide⟩, ⟨.readPartition 1 7, State.reset, by decide⟩,
    ⟨.readMap 1 0 64, State.reset, by decide +kernel⟩, ⟨.readStatistics 7, State.reset, by decide⟩,
    ⟨.readTransactions 0, quarantined, by decide⟩⟩

theorem witness_StatusReportAgrees : ∃ s : State, Inv s ∧ quiet s = true ∧ storeCount s = 2 :=
  ⟨holding, inv_holding, by decide⟩

theorem witness_SettingsWritten :
    (∃ (s : State) (n : Settings), settings? 48 0 0 0 0 0 1 1 = some n ∧
      LinkFree (.writeSettings 48 0 0 0 0 0 1 1) s ∧ s.seq.state ≠ .stopped ∧ n.prescale ≠ s.settings.prescale) ∧
    (∃ (s : State) (n : Settings), settings? 49 0 0 0 1 0 1 1 = some n ∧
      LinkFree (.writeSettings 49 0 0 0 1 0 1 1) s ∧ s.settings.alternation = false ∧ n.alternation = true ∧
      s.banks.pendingSwitch ≠ none) ∧
    (∃ (s : State) (n : Settings), settings? 255 1 65535 63 1 7 16 0 = some n ∧
      LinkFree (.writeSettings 255 1 65535 63 1 7 16 0) s ∧ s.seq.state = .stopped ∧ s.banks.pendingSwitch = none) :=
  ⟨⟨running .straight .free 0 3, (settings? 48 0 0 0 0 0 1 1).getD Settings.reset, by decide⟩,
    ⟨switching false false 0 4 (some .bank1) .ready, (settings? 49 0 0 0 1 0 1 1).getD Settings.reset, by decide⟩,
    ⟨stopped, (settings? 255 1 65535 63 1 7 16 0).getD Settings.reset, by decide⟩⟩

theorem witness_BankWritten :
    (∃ (s : State) (bb nb : Byte) (ls : Vector Half 8) (b : BankId) (n : Fin 9), LinkFree (.writePhases bb nb ls) s ∧
      phases? bb nb = some (b, n) ∧ (s.banks.get b).state = .active) ∧
    (∃ (s : State) (bb nb : Byte) (ls : Vector Half 8) (b : BankId) (n : Fin 9), LinkFree (.writePhases bb nb ls) s ∧
      phases? bb nb = some (b, n) ∧ (s.banks.get b).state = .ready ∧ n = 8) ∧
    (∃ (s : State) (b : BankId) (p : Partition) (r : PartRecord), LinkFree (.writePartition 1 7 1 255 4095 7 32 255) s ∧
      bankPartition? 1 7 = some (b, p) ∧ record? 1 255 4095 7 32 255 = some r ∧ (s.banks.get b).state ≠ .active) ∧
    (∃ (s : State) (b : BankId) (first : Nat) (entries : List (Option Partition)),
      LinkFree (.writeMap 1 63 1 [7]) s ∧ mapWrite? 1 63 1 [7] = some (b, first, entries) ∧
      (s.banks.get b).state ≠ .active) ∧
    (∃ (s : State) (src b : BankId), LinkFree (.copyBank 0 1) s ∧ copy? 0 1 = some (src, b) ∧
      (s.banks.get src).state = .active ∧ (s.banks.get b).state = .ready) :=
  ⟨⟨running .straight .free 0 3, 0, 8, demo.lengths, .bank0, 8, by decide⟩,
    ⟨running .straight .free 0 3, 1, 8, demo.lengths, .bank1, 8, by decide⟩,
    ⟨stopped, .bank1, 7, part 255 4095 7 32 255, by decide⟩, ⟨stopped, .bank1, 63, [some 7], by decide⟩,
    ⟨running .straight .free 0 3, .bank0, .bank1, by decide⟩⟩

theorem witness_BankClosed :
    (∃ s : State, LinkFree (.closeBank 2) s) ∧
    (∃ s : State, LinkFree (.closeBank 0) s ∧ (s.banks.get .bank0).state = .active) ∧
    (∃ s : State, LinkFree (.closeBank 1) s ∧ (s.banks.get .bank1).state = .ready) ∧
    (∃ s : State, LinkFree (.closeBank 1) s ∧ (s.banks.get .bank1).state = .editing ∧
      closeChecks (s.banks.get .bank1).contents = none) ∧
    (∃ s : State, LinkFree (.closeBank 0) s ∧ (s.banks.get .bank0).state = .editing ∧
      FirstFailure (s.banks.get .bank0).contents 1 0) :=
  ⟨⟨stopped, by decide⟩, ⟨running .straight .free 0 3, by decide⟩, ⟨running .straight .free 0 3, by decide⟩,
    ⟨stopped, by decide +kernel⟩,
    ⟨State.reset, by decide, by decide, ⟨rfl, rfl⟩, fun code item h hf => by
      rcases h with h | ⟨rfl, h⟩
      · obtain rfl : code = 0 := by omega
        exact hf
      · omega⟩⟩

theorem witness_SwitchRequested :
    (∃ s : State, LinkFree (.requestSwitch 2) s) ∧
    (∃ s : State, LinkFree (.requestSwitch 1) s ∧ s.settings.alternation = true) ∧
    (∃ s : State, LinkFree (.requestSwitch 0) s ∧ s.settings.alternation = false ∧
      (s.banks.get .bank0).state = .active) ∧
    (∃ s : State, LinkFree (.requestSwitch 1) s ∧ s.settings.alternation = false ∧
      (s.banks.get .bank1).state ≠ .active ∧ s.banks.pendingSwitch ≠ none) ∧
    (∃ s : State, LinkFree (.requestSwitch 1) s ∧ s.settings.alternation = false ∧
      s.banks.pendingSwitch = none ∧ s.seq.state = .stopped ∧ (s.banks.get .bank1).state = .editing) ∧
    (∃ s : State, LinkFree (.requestSwitch 1) s ∧ s.settings.alternation = false ∧
      (s.banks.get .bank1).state ≠ .active ∧ s.banks.pendingSwitch = none ∧ s.seq.state = .gap) ∧
    (∃ s : State, LinkFree (.requestSwitch 0) s ∧ s.settings.alternation = false ∧ s.banks.pendingSwitch = none ∧
      s.seq.state = .stopped ∧ (s.banks.get .bank0).state = .ready ∧ s.settings.syncMode = .free) ∧
    (∃ s : State, LinkFree (.requestSwitch 0) s ∧ s.settings.alternation = false ∧ s.banks.pendingSwitch = none ∧
      s.seq.state = .stopped ∧ (s.banks.get .bank0).state = .ready ∧ s.settings.syncMode = .follow) :=
  ⟨⟨State.reset, by decide⟩, ⟨switching false true 0 1 none .ready, by decide⟩,
    ⟨running .straight .free 0 3, by decide⟩, ⟨switching false false 0 4 (some .bank1) .ready, by decide⟩,
    ⟨stopped, by decide⟩, ⟨inGap .straight 0 9, by decide⟩, ⟨stopped, by decide⟩,
    ⟨{ stopped with settings := { Settings.reset with syncMode := .follow } }, by decide⟩⟩

theorem witness_SwitchCancelled :
    (∃ s : State, LinkFree .cancelSwitch s ∧ s.banks.pendingSwitch = none) ∧
    (∃ s : State, LinkFree .cancelSwitch s ∧ s.banks.pendingSwitch ≠ none) :=
  ⟨⟨State.reset, by decide⟩, ⟨switching false false 0 4 (some .bank1) .ready, by decide⟩⟩

theorem witness_ModeRequested :
    (∃ s : State, LinkFree (.setMode 3) s) ∧ (∃ s : State, LinkFree (.setMode 2) s ∧ s.seq.state = .stopped) ∧
    (∃ s : State, LinkFree (.setMode 2) s ∧ s.seq.state = .gap) :=
  ⟨⟨State.reset, by decide⟩, ⟨State.reset, by decide⟩, ⟨inGap .straight 0 9, by decide⟩⟩

theorem witness_ScheduleStopped :
    (∃ s : State, LinkFree .stopSchedule s ∧ s.mode.inForce ≠ .straight) ∧
    (∃ s : State, LinkFree .stopSchedule s ∧ s.mode.inForce = .straight ∧ s.mode.requested ≠ none) ∧
    (∃ s : State, LinkFree .stopSchedule s ∧ s.mode.inForce = .straight ∧ s.mode.requested = none ∧
      s.seq.state = .stopped) ∧
    (∃ s : State, LinkFree .stopSchedule s ∧ s.mode.inForce = .straight ∧ s.mode.requested = none ∧
      s.seq.state = .gap) :=
  ⟨⟨holding, by decide⟩, ⟨asking .straight .observe false, by decide⟩, ⟨State.reset, by decide⟩,
    ⟨inGap .straight 0 9, by decide⟩⟩

theorem witness_IncidentTaken :
    (∃ s : State, LinkFree .takeIncident s ∧ s.incidents.queue = []) ∧
    (∃ s : State, LinkFree .takeIncident s ∧ s.incidents.queue.length = 1 ∧ alertAsserted s = true) :=
  ⟨⟨State.reset, by decide⟩, ⟨reported, by decide⟩⟩

theorem witness_CountersClearedAndQuarantineFlushed :
    (∃ s : State, LinkFree .clearStatistics s) ∧
    (∃ s : State, LinkFree .flushQuarantine s ∧ expiredCount s = 1) :=
  ⟨⟨State.reset, by decide⟩, ⟨quarantined, by decide⟩⟩

theorem witness_RegulatorReset :
    ∃ s : State, LinkFree .resetRegulator s ∧ s.mode.inForce = .enforce ∧ storeCount s = 2 ∧
      1 ≤ s.settings.alertThreshold.val :=
  ⟨holding, by decide⟩

theorem witness_PinResetAndItsEnd :
    (∃ s : State, quiet s = true ∧ s.pins.rst = false) ∧
    (∃ s : State, quiet s = true ∧ s.pins.rst = true ∧ s.memPresented = none) ∧
    (∃ (s : State) (r : Response), quiet s = true ∧ s.pins.rst = true ∧ s.memPresented = some r) :=
  ⟨⟨State.reset, by decide⟩, ⟨inReset, by decide⟩,
    ⟨{ inReset with memPresented := some (response 4 .ok 0) }, response 4 .ok 0, by decide⟩⟩

/-- The record of a stray response while STOPPED, with a repeat count. -/
def strayRecord (repeats : Nat) : IncidentRecord :=
  { seq := 0, kind := .strayResponse, frame := none, phase := none, partition := none, requester := none, tag := none
    addr := none, repeatCount := repeats, detail := 4 }

theorem witness_IncidentCoalescedAddedOrLost :
    (∃ (u : IncidentUnit) (i : Incident) (n : IncidentRecord), u.queue = [] ++ [n] ∧ n.kind = i.kind ∧
      n.partition = i.partition ∧ n.requester = i.requester ∧ u.newestFrame = none ∧ n.repeatCount = 65535) ∧
    (∃ (u : IncidentUnit) (i : Incident), u.queue.getLast?.all (fun n => !u.matchesNewest n i (some 3)) = true ∧
      u.queue.length = 15) ∧
    (∃ (u : IncidentUnit) (i : Incident), u.queue.getLast?.all (fun n => !u.matchesNewest n i (some 3)) = true ∧
      u.queue.length = 16 ∧ u.lost = 255) :=
  ⟨⟨{ IncidentUnit.reset with queue := [strayRecord 65535] }, Incident.plain .strayResponse 0, strayRecord 65535,
      by decide⟩,
    ⟨{ IncidentUnit.reset with queue := List.replicate 15 (strayRecord 1) }, Incident.plain .strayResponse 0,
      by decide⟩,
    ⟨{ IncidentUnit.reset with queue := List.replicate 16 (strayRecord 1), lost := 255 },
      Incident.plain .strayResponse 0, by decide⟩⟩

/-- The Incident Queue holds so many stray responses of while STOPPED. -/
def straying (n : Nat) : State :=
  { State.reset with incidents := { IncidentUnit.reset with queue := List.replicate n (strayRecord 1) } }

theorem witness_AlertLine :
    (∃ (s : State) (i : Incident), Coalesces s.incidents i (incidentFrame s) ∧ alertAsserted s = true) ∧
    (∃ (s : State) (i : Incident), ¬ Coalesces s.incidents i (incidentFrame s) ∧ s.incidents.queue.length = 15) ∧
    (∃ (s : State) (i : Incident), ¬ Coalesces s.incidents i (incidentFrame s) ∧ s.incidents.queue.length = 16) :=
  have other : ∀ n, ¬ Coalesces (straying n).incidents (Incident.plain .frameCut 0) (incidentFrame (straying n)) :=
    fun n ⟨old, r, hq, hk, _⟩ => by
      have hr : r ∈ (straying n).incidents.queue := by rw [hq]; simp
      rw [List.eq_of_mem_replicate hr] at hk; cases hk
  ⟨⟨straying 1, Incident.plain .strayResponse 9, ⟨[], strayRecord 1, by decide⟩, by decide⟩,
    ⟨straying 15, Incident.plain .frameCut 0, other 15, by decide⟩,
    ⟨straying 16, Incident.plain .frameCut 0, other 16, by decide⟩⟩

/-- A state that meets the laws and takes a step with an effect, for the statements on every step. -/
theorem witness_EveryStepKeepsLaws :
    ∃ s t : State, Inv s ∧ step s = .next t ∧ s.mode.inForce = .enforce ∧ storeCount s = 2 :=
  ⟨holding, refclk (settle holding), inv_holding, rfl, by decide⟩

theorem witness_CreditSumKept : ∃ s t : State, Inv s ∧ step s = .next t ∧ s.credit[(0 : Partition)].granted = 20 :=
  ⟨holding, refclk (settle holding), inv_holding, rfl, by decide⟩

theorem witness_ReturnBoundKept : ∃ s t : State, Inv s ∧ step s = .next t ∧ liveCount s = 2 :=
  ⟨holding, refclk (settle holding), inv_holding, rfl, by decide⟩

theorem witness_LiveTagsStayUnique : ∃ s t : State, Inv s ∧ step s = .next t ∧ (liveKeys s).length = 2 :=
  ⟨holding, refclk (settle holding), inv_holding, rfl, by decide⟩

end Sys2Proof.Tests
end

section
/-! PROOFS. Schedule banks (Chapter 2): CLOSE_BANK, REQUEST_SWITCH and CANCEL_SWITCH. -/

namespace Sys2Proof.Banks

open Sys2Proof.Machine Sys2Proof.Safety Sys2Proof.Claims

/-! ## Command rows and bank numbers -/

/-- A command row with the link free does what `perform` says, the reply waiting for the end of the execution. -/
theorem exec_row_of_perform {c : LinkCommand} {s t : State} {st : ReplyStatus} {bytes : List Byte}
    (h : LinkFree c s) (hp : perform c s = (t, { status := st, bytes := bytes })) :
    exec c.row s = .next (withReply st bytes t) := by
  obtain ⟨⟨hq, hr⟩, hc, hl⟩ := h
  rw [exec_row, event_of_quiet _ hq, runCommand_idle hr hc hl, carryOut, hp]
  rfl

/-- The bytes 00h and 01h name the banks (11.3). -/
theorem bank?_of_number {bb : Byte} {b : BankId}
    (h : (bb = 0x00#8 ∧ b = .bank0) ∨ (bb = 0x01#8 ∧ b = .bank1)) : bank? bb = some b := by
  obtain ⟨rfl, rfl⟩ | ⟨rfl, rfl⟩ := h <;> rfl

/-- No other byte names a bank (11.3). -/
theorem bank?_eq_none {bb : Byte} (h : 0x02#8 ≤ bb) : bank? bb = none := by
  unfold bank?
  rw [if_neg (by bv_omega), if_neg (by bv_omega)]

/-! ## Putting a bank in another state -/

@[simp] theorem setState_get (c : BankControl) (b : BankId) (st : BankState) :
    (c.setState b st).get b = { c.get b with state := st } := by cases b <;> rfl

@[simp] theorem setState_get_other (c : BankControl) (b : BankId) (st : BankState) :
    (c.setState b st).get b.other = c.get b.other := by cases b <;> rfl

@[simp] theorem setState_pendingSwitch (c : BankControl) (b : BankId) (st : BankState) :
    (c.setState b st).pendingSwitch = c.pendingSwitch := by cases b <;> rfl

@[simp] theorem setState_framesInBank (c : BankControl) (b : BankId) (st : BankState) :
    (c.setState b st).framesInBank = c.framesInBank := by cases b <;> rfl

/-! ## The close checks (R33)

`closeChecks` searches the checks one after the other. Its specification carries along that no check with a lower
code fails, and each check either adds its own code to that or yields the first failure. -/

/-- No check with a code below `code` fails. -/
def PassesBelow (c : Schedule) (code : Nat) : Prop := ∀ code' item, code' < code → ¬ CheckFails c code' item

/-- The index CHECK_FAILED shows for a failure: none for checks 1 and 5, which have no items (R33). -/
def shownIndex (code item : Nat) : Option Nat := if code = 1 ∨ code = 5 then none else some item

/-- What an answer of the close checks says of the contents. -/
def AnswerFits (c : Schedule) : Option (Nat × Option Nat) → Prop
  | none => ∀ code item, ¬ CheckFails c code item
  | some (code, index) => ∃ item, FirstFailure c code item ∧ index = shownIndex code item

/-- The lowest code is 1. -/
theorem passesBelow_one (c : Schedule) : PassesBelow c 1 := by
  rintro code item hlt hf
  obtain rfl : code = 0 := by omega
  exact hf

/-- The check that comes next passes too. -/
theorem PassesBelow.succ {c : Schedule} {code : Nat} (hb : PassesBelow c code)
    (h : ∀ item, ¬ CheckFails c code item) : PassesBelow c (code + 1) := by
  intro code' item hlt
  rcases Nat.lt_succ_iff_lt_or_eq.mp hlt with hlt | rfl
  · exact hb code' item hlt
  · exact h item

/-- The highest code is 7. -/
theorem PassesBelow.all {c : Schedule} (hb : PassesBelow c 8) (code item : Nat) : ¬ CheckFails c code item := by
  by_cases h : code < 8
  · exact hb code item h
  · obtain ⟨k, rfl⟩ : ∃ k, code = k + 8 := ⟨code - 8, by omega⟩
    exact id

/-- The lowest index that fails is the first failure of a check whose items are those of a table. -/
theorem firstFailure_of_lowestFailing {c : Schedule} {code n : Nat} {fails : Fin n → Bool} {i : Fin n}
    (hf : ∀ item, CheckFails c code item ↔ ∃ i, i.val = item ∧ fails i = true) (hb : PassesBelow c code)
    (h : lowestFailing fails = some i) : FirstFailure c code i.val := by
  obtain ⟨hi, hlow⟩ := find_finRange_eq_some.mp h
  refine ⟨(hf _).mpr ⟨i, rfl, hi⟩, ?_⟩
  rintro code' item' (hlt | ⟨rfl, hlt⟩) hfail
  · exact hb code' item' hlt hfail
  · obtain ⟨j, rfl, hj⟩ := (hf _).mp hfail
    rw [hlow j hlt] at hj
    cases hj

/-- A check over a table in which no index fails passes. -/
theorem passesBelow_of_lowestFailing {c : Schedule} {code n : Nat} {fails : Fin n → Bool}
    (hf : ∀ item, CheckFails c code item ↔ ∃ i, i.val = item ∧ fails i = true) (hb : PassesBelow c code)
    (h : lowestFailing fails = none) : PassesBelow c (code + 1) := by
  refine hb.succ fun item hfail => ?_
  obtain ⟨i, -, hi⟩ := (hf item).mp hfail
  exact List.find?_eq_none.mp h i (List.mem_finRange i) hi

/-- A check without items that fails is itself the first failure. -/
theorem firstFailure_of_single {c : Schedule} {code : Nat} {P : Prop}
    (hf : ∀ item, CheckFails c code item ↔ item = 0 ∧ P) (hb : PassesBelow c code) (h : P) :
    FirstFailure c code 0 := by
  refine ⟨(hf 0).mpr ⟨rfl, h⟩, ?_⟩
  rintro code' item' (hlt | ⟨-, hlt⟩)
  · exact hb code' item' hlt
  · omega

/-- A check without items whose condition does not hold passes. -/
theorem passesBelow_of_single {c : Schedule} {code : Nat} {P : Prop}
    (hf : ∀ item, CheckFails c code item ↔ item = 0 ∧ P) (hb : PassesBelow c code) (h : ¬ P) :
    PassesBelow c (code + 1) :=
  hb.succ fun item hfail => h ((hf item).mp hfail).2

/-! Each check of the model against its row of the table of R33. -/

theorem checkFails_one (c : Schedule) (item : Nat) : CheckFails c 1 item ↔ item = 0 ∧ c.phaseCount.val = 0 := Iff.rfl

theorem checkFails_two (c : Schedule) (item : Nat) :
    CheckFails c 2 item ↔ ∃ p, p.val = item ∧ phaseFails c p = true := by
  simp only [phaseFails, Bool.and_eq_true, decide_eq_true_eq]
  rfl

theorem checkFails_three (c : Schedule) (item : Nat) :
    CheckFails c 3 item ↔ ∃ p, p.val = item ∧ windowFails c p = true := by
  simp [CheckFails, windowFails, PartRecord.inWindow]

theorem checkFails_four (c : Schedule) (item : Nat) :
    CheckFails c 4 item ↔ ∃ p, p.val = item ∧ windowEmpty c p = true := by
  simp [CheckFails, windowEmpty]

theorem checkFails_five (c : Schedule) (item : Nat) : CheckFails c 5 item ↔ item = 0 ∧ 48 < limitSum c := Iff.rfl

/-- A map entry fails check 6 when it names a disabled partition. -/
theorem mapFails_iff (c : Schedule) (r : Requester) :
    mapFails c r = true ↔ ∃ p : Partition, c.map[r] = some p ∧ c.parts[p].enabled = false := by
  unfold mapFails
  split
  · rename_i p hp
    simp [hp]
  · rename_i hp
    simp [hp]

theorem checkFails_six (c : Schedule) (item : Nat) :
    CheckFails c 6 item ↔ ∃ r, r.val = item ∧ mapFails c r = true := by
  simp only [mapFails_iff]
  exact ⟨fun ⟨r, p, hr, hp⟩ => ⟨r, hr, p, hp⟩, fun ⟨r, hr, p, hp⟩ => ⟨r, p, hr, hp⟩⟩

theorem checkFails_seven (c : Schedule) (item : Nat) :
    CheckFails c 7 item ↔ ∃ p, p.val = item ∧ budgetFails c p = true := by
  simp [CheckFails, budgetFails, and_assoc]

/-- `closeChecks` answers the first failure in the order of R33, and nothing only where no check fails. -/
theorem closeChecks_fits (c : Schedule) : AnswerFits c (closeChecks c) := by
  have pass1 := passesBelow_one c
  unfold closeChecks
  split
  case isTrue h => exact ⟨0, firstFailure_of_single (checkFails_one c) pass1 h, rfl⟩
  case isFalse h =>
  have pass2 := passesBelow_of_single (checkFails_one c) pass1 h
  split
  case h_1 p h => exact ⟨p, firstFailure_of_lowestFailing (checkFails_two c) pass2 h, rfl⟩
  case h_2 h =>
  have pass3 := passesBelow_of_lowestFailing (checkFails_two c) pass2 h
  split
  case h_1 p h => exact ⟨p, firstFailure_of_lowestFailing (checkFails_three c) pass3 h, rfl⟩
  case h_2 h =>
  have pass4 := passesBelow_of_lowestFailing (checkFails_three c) pass3 h
  split
  case h_1 p h => exact ⟨p, firstFailure_of_lowestFailing (checkFails_four c) pass4 h, rfl⟩
  case h_2 h =>
  have pass5 := passesBelow_of_lowestFailing (checkFails_four c) pass4 h
  split
  case isTrue h => exact ⟨0, firstFailure_of_single (checkFails_five c) pass5 h, rfl⟩
  case isFalse h =>
  have pass6 := passesBelow_of_single (checkFails_five c) pass5 h
  split
  case h_1 r h => exact ⟨r, firstFailure_of_lowestFailing (checkFails_six c) pass6 h, rfl⟩
  case h_2 h =>
  have pass7 := passesBelow_of_lowestFailing (checkFails_six c) pass6 h
  split
  case h_1 p h => exact ⟨p, firstFailure_of_lowestFailing (checkFails_seven c) pass7 h, rfl⟩
  case h_2 h => exact (passesBelow_of_lowestFailing (checkFails_seven c) pass7 h).all

/-- There is at most one first failure. -/
theorem firstFailure_unique {c : Schedule} {code item code' item' : Nat} (h : FirstFailure c code item)
    (h' : FirstFailure c code' item') : code = code' ∧ item = item' := by
  obtain ⟨hfail, hlow⟩ := h
  obtain ⟨hfail', hlow'⟩ := h'
  have hge : ¬ (code' < code ∨ (code' = code ∧ item' < item)) := fun hlt => hlow _ _ hlt hfail'
  have hle : ¬ (code < code' ∨ (code = code' ∧ item < item')) := fun hlt => hlow' _ _ hlt hfail
  omega

/-- The close checks pass where none of them fails. -/
theorem closeChecks_eq_none {c : Schedule} (h : ∀ code item, ¬ CheckFails c code item) : closeChecks c = none := by
  have fits := closeChecks_fits c
  cases hc : closeChecks c with
  | none => rfl
  | some answer =>
    rw [hc] at fits
    obtain ⟨item, ⟨hfail, -⟩, -⟩ := fits
    exact absurd hfail (h _ _)

/-- The close checks answer the first failure. -/
theorem closeChecks_eq_some {c : Schedule} {code item : Nat} (h : FirstFailure c code item) :
    closeChecks c = some (code, shownIndex code item) := by
  have fits := closeChecks_fits c
  cases hc : closeChecks c with
  | none =>
    rw [hc] at fits
    exact absurd h.1 (fits code item)
  | some answer =>
    obtain ⟨code', index⟩ := answer
    rw [hc] at fits
    obtain ⟨item', first, rfl⟩ := fits
    obtain ⟨rfl, rfl⟩ := firstFailure_unique first h
    rfl

/-- The reply CHECK_FAILED with the item of the first failure, FFh for checks 1 and 5 (11.2). -/
theorem checkFailed_shownIndex (code item : Nat) :
    checkFailed code (shownIndex code item) = { status := .checkFailed, bytes :=
      [BitVec.ofNat 8 code, if code = 1 ∨ code = 5 then 0xFF#8 else BitVec.ofNat 8 item] } := by
  unfold checkFailed shownIndex
  split <;> rfl

/-! ## CLOSE_BANK (R32) -/

/-- A byte that names no bank is refused. -/
theorem cmdCloseBank_badArgument {bb : Byte} (s : State) (hb : bank? bb = none) :
    cmdCloseBank bb s = (s, replyOf .badArgument) := by
  simp [cmdCloseBank, hb, refuse]

theorem cmdCloseBank_active {bb : Byte} {b : BankId} {s : State} (hb : bank? bb = some b)
    (h : (s.banks.get b).state = .active) : cmdCloseBank bb s = (s, replyOf .bankActive) := by
  simp [cmdCloseBank, hb, h, refuse]

theorem cmdCloseBank_ready {bb : Byte} {b : BankId} {s : State} (hb : bank? bb = some b)
    (h : (s.banks.get b).state = .ready) : cmdCloseBank bb s = (s, replyOf .alreadyReady) := by
  simp [cmdCloseBank, hb, h, refuse]

theorem cmdCloseBank_passes {bb : Byte} {b : BankId} {s : State} (hb : bank? bb = some b)
    (h : (s.banks.get b).state = .editing) (hc : ∀ code item, ¬ CheckFails (s.banks.get b).contents code item) :
    cmdCloseBank bb s = ({ s with banks := s.banks.setState b .ready }, Reply.done) := by
  simp [cmdCloseBank, hb, h, closeChecks_eq_none hc]

theorem cmdCloseBank_fails {bb : Byte} {b : BankId} {s : State} {code item : Nat} (hb : bank? bb = some b)
    (h : (s.banks.get b).state = .editing) (hf : FirstFailure (s.banks.get b).contents code item) :
    cmdCloseBank bb s = (s, checkFailed code (shownIndex code item)) := by
  simp [cmdCloseBank, hb, h, closeChecks_eq_some hf]

/-- Settles O46: the state of the bank decides, and on an EDITING bank the first failure that `closeChecks` finds. -/
theorem bankClosed : Obligations.BankClosed := by
  intro s bb hs
  refine ⟨fun hbad => exec_row_of_perform hs (cmdCloseBank_badArgument s (bank?_eq_none hbad)), fun b hnum => ?_⟩
  have hb := bank?_of_number hnum
  refine ⟨fun hst => exec_row_of_perform hs (cmdCloseBank_active hb hst),
    fun hst => exec_row_of_perform hs (cmdCloseBank_ready hb hst), fun hst => ⟨fun hpass => ?_, fun code item hf => ?_⟩⟩
  · exact ⟨_, exec_row_of_perform hs (cmdCloseBank_passes hb hst hpass), rfl, setState_get .., setState_get_other ..,
      setState_pendingSwitch .., setState_framesInBank ..⟩
  · exact exec_row_of_perform hs ((cmdCloseBank_fails hb hst hf).trans (by rw [checkFailed_shownIndex]))

/-! ## CANCEL_SWITCH (R38) -/

theorem cmdCancelSwitch_none {s : State} (h : s.banks.pendingSwitch = none) :
    cmdCancelSwitch s = (s, replyOf .nothingPending) := by
  simp [cmdCancelSwitch, h, refuse]

theorem cmdCancelSwitch_pending {s : State} (h : s.banks.pendingSwitch ≠ none) :
    cmdCancelSwitch s = ({ s with banks := { s.banks with pendingSwitch := none } }, Reply.done) := by
  simp [cmdCancelSwitch, Option.isSome_iff_ne_none.mpr h]

/-- With no switch pending and alternation off no attempt is due (R35). -/
theorem switchDue_eq_false {s : State} (hp : s.banks.pendingSwitch = none) (ha : s.settings.alternation = false) :
    switchDue s = false := by
  simp [switchDue, hp, ha]

/-- Settles O48: the pending switch decides, and the law of R34 excludes one beside alternation. -/
theorem switchCancelled : Obligations.SwitchCancelled := by
  intro s hs
  refine ⟨fun hnone => exec_row_of_perform hs (cmdCancelSwitch_none hnone), fun hsome => ?_⟩
  refine ⟨_, exec_row_of_perform hs (cmdCancelSwitch_pending hsome), rfl, switchDue_eq_false rfl, fun inv => ?_⟩
  obtain ⟨hlaw, -⟩ := inv.switch
  exact (hlaw (Option.isSome_iff_ne_none.mpr hsome)).2

/-! ## A frame start (R12, R13) -/

/-- A refill is what R48 and R49 say. -/
theorem refill_refilled (c : Credit) (r : PartRecord) : Refilled c (c.refill r) r := by
  unfold Refilled Credit.refill
  cases he : r.enabled with
  | false => simp
  | true => by_cases h : 8 ≤ c.fraction.val + r.budgetFraction.val <;> simp [h]

/-- The sequencer at a frame start: the reactions leave it as the frame began (R12). -/
theorem frameStart_seq (c : Cause) (s : State) :
    (frameStart c s).seq = (beginFrame c (bankDecision s).2 s).seq := by simp [frameStart]

theorem frameStart_frameOutLeft (c : Cause) (s : State) : (frameStart c s).frameOutLeft = 64 := by
  simp [frameStart, beginFrame, Config.frameOutWidth]

/-- The reactions to a frame start do not touch the credit refilled before them (log 2). -/
theorem frameStart_credit (c : Cause) (s : State) :
    (frameStart c s).credit = (refillReaction (beginFrame c (bankDecision s).2 s)).credit := by simp [frameStart]

/-- The bank in force in the new frame is the one Bank Control named (R12, R35). -/
theorem frameStart_inForce (c : Cause) (s : State) :
    (frameStart c s).banks.inForce = (bankDecision s).2.inForce := by
  simp only [frameStart, frameReactions_inForce]
  rfl

/-- Every partition is refilled under the bank in force (R48, R49). -/
theorem frameStart_refilled (c : Cause) (s : State) (p : Partition) :
    Refilled s.credit[p] (frameStart c s).credit[p] (frameStart c s).banks.inForce.parts[p] := by
  have hp : (frameStart c s).credit[p] = s.credit[p].refill (bankDecision s).2.inForce.parts[p] := by
    simp [frameStart_credit, refillReaction, beginFrame]
  rw [hp, frameStart_inForce]
  exact refill_refilled ..

/-- What no reaction to a frame start reaches stays as it was. -/
theorem frameStart_frame (c : Cause) (s : State) :
    frameStart c s = { s with
      seq := (frameStart c s).seq, frameOutLeft := (frameStart c s).frameOutLeft, banks := (frameStart c s).banks
      credit := (frameStart c s).credit, stats := (frameStart c s).stats, mode := (frameStart c s).mode
      returnQueue := (frameStart c s).returnQueue, hold := (frameStart c s).hold
      incidents := (frameStart c s).incidents, freeIndex := (frameStart c s).freeIndex } := by
  have hpins := frameStart_pins c s
  have hdivider := frameStart_divider c s
  have hsettings := frameStart_settings c s
  have hpresented := frameStart_presented c s
  have hpointer := frameStart_pointer c s
  have hoffer := frameStart_offer c s
  have hott := frameStart_ott c s
  have hmem := frameStart_memPresented c s
  have hlink := frameStart_link c s
  have hpending := frameStart_pending c s
  generalize frameStart c s = t at *
  cases t
  simp_all

/-- The reactions to a frame start, in one of their orders, on the frame begun and refilled (R13; log 4). -/
theorem frameStart_inOrder (c : Cause) (s : State) :
    ∃ o, frameStart c s = inOrder o (bankReaction s.seq.firstPending (bankDecision s).1) modeReaction holdReaction
      { s with
        banks := (bankDecision s).2, seq := (frameStart c s).seq, frameOutLeft := 64
        credit := (frameStart c s).credit, freeIndex := (frameStart c s).freeIndex } := by
  obtain ⟨o, h⟩ := frameReactions_inOrder s.seq.firstPending (bankDecision s).1
    (refillReaction (beginFrame c (bankDecision s).2 s))
  refine ⟨o, ?_⟩
  rw [frameStart_seq, frameStart_credit]
  exact h

/-- A frame start is what R12 to R14, R48 and R49 say of it, from every state. -/
theorem frameStart_begins (c : Cause) (s : State) : FrameBegun c s (frameStart c s) := by
  refine ⟨?_, frameStart_frameOutLeft c s, frameStart_refilled c s, frameStart_frame c s, frameStart_inOrder c s⟩
  rw [frameStart_inForce, frameStart_seq]
  rfl

/-- What Bank Control makes of the banks in its reaction rests on the banks alone (R36). -/
theorem bankReaction_banks_congr (first : Bool) (a : SwitchAttempt) {s t : State} (h : s.banks = t.banks) :
    (bankReaction first a s).banks = (bankReaction first a t).banks := by
  cases a <;> simp [bankReaction, h]

/-- Among the reactions to a frame start Bank Control's alone reaches the banks. -/
theorem frameReactions_banks (first : Bool) (a : SwitchAttempt) (s : State) :
    (frameReactions first a s).banks = (bankReaction first a s).banks := by
  obtain ⟨o, h⟩ := frameReactions_inOrder first a s
  rw [h]
  cases o <;> simp only [inOrder, modeReaction_banks, holdReaction_banks] <;>
    exact bankReaction_banks_congr first a (by simp)

/-- At the first frame start Bank Control makes no attempt (R35). -/
theorem bankDecision_first {s : State} (h : s.seq.firstPending = true) : bankDecision s = (.notDue, s.banks) := by
  have hdue : switchDue s = false := by simp [switchDue, h]
  unfold bankDecision
  split
  · rfl
  · simp [hdue]

/-- At the first frame start the frames-in-bank count becomes 1 and the banks stay as they are (R35, R36). -/
theorem frameStart_banks_first (c : Cause) {s : State} (h : s.seq.firstPending = true) :
    (frameStart c s).banks = { s.banks with framesInBank := 1 } := by
  simp [frameStart, frameReactions_banks, bankDecision_first h, h, bankReaction, beginFrame]

/-! ## REQUEST_SWITCH (R37) -/

/-- The target made ACTIVE and the sequencer set to begin its first frame with number 0 (R5, R37). -/
def startedOn (b : BankId) (s : State) : State :=
  { s with banks := s.banks.setState b .active, seq := { s.seq with frame := 0xFFFFFFFF#32, firstPending := true } }

/-- In FREE the start is at once a frame start (R5). -/
theorem startOn_free {b : BankId} {s : State} (h : s.settings.syncMode = .free) :
    startOn b s = frameStart .timed (startedOn b s) := by
  simp [startOn, startSequencer, startedOn, h]

/-- In FOLLOW the start is an entry to GAP (R5). -/
theorem startOn_follow {b : BankId} {s : State} (h : s.settings.syncMode = .follow) :
    startOn b s = enterGap (startedOn b s) := by
  simp [startOn, startSequencer, startedOn, h]

/-- The frame a start in FREE begins is frame 0, the first in its bank (R5, R36). -/
theorem frameStart_startedOn (c : Cause) (b : BankId) (s : State) :
    (frameStart c (startedOn b s)).seq.frame = 0 ∧ (frameStart c (startedOn b s)).banks.framesInBank = 1 ∧
    ((frameStart c (startedOn b s)).banks.get b).state = .active := by
  have hbanks := frameStart_banks_first c (s := startedOn b s) rfl
  refine ⟨by rw [frameStart_seq]; exact (by decide : 0xFFFFFFFF#32 + 1 = 0), by rw [hbanks], ?_⟩
  rw [hbanks]
  cases b <;> rfl

theorem cmdRequestSwitch_badArgument {bb : Byte} (s : State) (hb : bank? bb = none) :
    cmdRequestSwitch bb s = (s, replyOf .badArgument) := by
  simp [cmdRequestSwitch, hb, refuse]

theorem cmdRequestSwitch_alternating {bb : Byte} {b : BankId} {s : State} (hb : bank? bb = some b)
    (ha : s.settings.alternation = true) : cmdRequestSwitch bb s = (s, replyOf .alternating) := by
  simp [cmdRequestSwitch, hb, ha, refuse]

theorem cmdRequestSwitch_active {bb : Byte} {b : BankId} {s : State} (hb : bank? bb = some b)
    (ha : s.settings.alternation = false) (hst : (s.banks.get b).state = .active) :
    cmdRequestSwitch bb s = (s, replyOf .alreadyActive) := by
  simp [cmdRequestSwitch, hb, ha, hst, refuse]

theorem cmdRequestSwitch_pending {bb : Byte} {b : BankId} {s : State} (hb : bank? bb = some b)
    (ha : s.settings.alternation = false) (hst : (s.banks.get b).state ≠ .active)
    (hp : s.banks.pendingSwitch ≠ none) : cmdRequestSwitch bb s = (s, replyOf .switchPending) := by
  simp [cmdRequestSwitch, hb, ha, hst, Option.isSome_iff_ne_none.mpr hp, refuse]

theorem cmdRequestSwitch_running {bb : Byte} {b : BankId} {s : State} (hb : bank? bb = some b)
    (ha : s.settings.alternation = false) (hst : (s.banks.get b).state ≠ .active)
    (hp : s.banks.pendingSwitch = none) (hseq : s.seq.state ≠ .stopped) :
    cmdRequestSwitch bb s = ({ s with banks := { s.banks with pendingSwitch := some b } }, replyOf .accepted) := by
  cases h : s.seq.state with
  | stopped => exact absurd h hseq
  | running | gap => simp [cmdRequestSwitch, hb, ha, hst, hp, h]

theorem cmdRequestSwitch_notReady {bb : Byte} {b : BankId} {s : State} (hb : bank? bb = some b)
    (ha : s.settings.alternation = false) (hp : s.banks.pendingSwitch = none) (hseq : s.seq.state = .stopped)
    (hst : (s.banks.get b).state = .editing) : cmdRequestSwitch bb s = (s, replyOf .bankNotReady) := by
  simp [cmdRequestSwitch, hb, ha, hst, hp, hseq, refuse]

theorem cmdRequestSwitch_starts {bb : Byte} {b : BankId} {s : State} (hb : bank? bb = some b)
    (ha : s.settings.alternation = false) (hp : s.banks.pendingSwitch = none) (hseq : s.seq.state = .stopped)
    (hst : (s.banks.get b).state = .ready) : cmdRequestSwitch bb s = (startOn b s, Reply.done) := by
  simp [cmdRequestSwitch, hb, ha, hst, hp, hseq]

/-- Settles O47: the table of R37 row by row; a start is a first frame start in FREE and an entry to GAP in FOLLOW. -/
theorem switchRequested : Obligations.SwitchRequested := by
  intro s bb hs
  refine ⟨fun hbad => exec_row_of_perform hs (cmdRequestSwitch_badArgument s (bank?_eq_none hbad)), fun b hnum => ?_⟩
  have hb := bank?_of_number hnum
  refine ⟨fun ha => exec_row_of_perform hs (cmdRequestSwitch_alternating hb ha), fun ha => ?_⟩
  refine ⟨fun hst => exec_row_of_perform hs (cmdRequestSwitch_active hb ha hst), fun hst => ?_⟩
  refine ⟨fun hp => exec_row_of_perform hs (cmdRequestSwitch_pending hb ha hst hp), fun hp => ?_⟩
  refine ⟨fun hseq hed => exec_row_of_perform hs (cmdRequestSwitch_notReady hb ha hp hseq hed),
    fun hseq => exec_row_of_perform hs (cmdRequestSwitch_running hb ha hst hp hseq), fun hseq hready => ?_⟩
  refine ⟨startOn b s, startedOn b s, exec_row_of_perform hs (cmdRequestSwitch_starts hb ha hp hseq hready),
    by cases b <;> rfl, fun hfree => ?_, fun hfollow => ?_⟩
  · rw [startOn_free hfree]
    exact ⟨rfl, frameStart_begins .timed _, frameStart_startedOn .timed b s⟩
  · rw [startOn_follow hfollow]
    refine ⟨fun inv => ?_, rfl⟩
    obtain ⟨-, -, -, hzero⟩ := inv.switch
    exact (setState_framesInBank ..).trans (hzero (.inl hseq))

end Sys2Proof.Banks
end

section
/-! PROOFS. Operating modes (Chapter 4): SET_MODE. -/

namespace Sys2Proof.Modes

open Sys2Proof.Machine Sys2Proof.Safety Sys2Proof.Claims
open Sys2Proof.Banks (exec_row_of_perform)

/-! ## Target bytes (R65, 11.3) -/

/-- The bytes 00h to 02h name the modes. -/
theorem targetMode?_of_number {mb : Byte} {m : Mode}
    (h : (mb = 0x00#8 ∧ m = .straight) ∨ (mb = 0x01#8 ∧ m = .observe) ∨ (mb = 0x02#8 ∧ m = .enforce)) :
    targetMode? mb = some m := by
  obtain ⟨rfl, rfl⟩ | ⟨rfl, rfl⟩ | ⟨rfl, rfl⟩ := h <;> rfl

/-- No other byte names a mode. -/
theorem targetMode?_eq_none {mb : Byte} (h : 0x03#8 ≤ mb) : targetMode? mb = none := by
  unfold targetMode?
  rw [if_neg (by bv_omega), if_neg (by bv_omega), if_neg (by bv_omega)]

/-! ## SET_MODE (R65, R66) -/

theorem cmdSetMode_badArgument {mb : Byte} (s : State) (hm : targetMode? mb = none) :
    cmdSetMode mb s = (s, replyOf .badArgument) := by
  simp [cmdSetMode, hm, refuse]

theorem cmdSetMode_stopped_straight {mb : Byte} {s : State} (hm : targetMode? mb = some .straight)
    (hseq : s.seq.state = .stopped) : cmdSetMode mb s = (s, Reply.done) := by
  simp [cmdSetMode, hm, hseq]

theorem cmdSetMode_stopped_refuses {mb : Byte} {m : Mode} {s : State} (hm : targetMode? mb = some m)
    (hne : m ≠ .straight) (hseq : s.seq.state = .stopped) : cmdSetMode mb s = (s, replyOf .modeRefused) := by
  simp [cmdSetMode, hm, hseq, hne, refuse]

theorem cmdSetMode_running {mb : Byte} {m : Mode} {s : State} (hm : targetMode? mb = some m)
    (hseq : s.seq.state ≠ .stopped) :
    cmdSetMode mb s = ({ s with mode := { s.mode with requested := some m } }, replyOf .accepted) := by
  cases h : s.seq.state with
  | stopped => exact absurd h hseq
  | running | gap => simp [cmdSetMode, hm, h]

/-- Settles O49: the rows of R65 by target byte and sequencer state, each carried out with the link free. -/
theorem modeRequested : Obligations.ModeRequested := by
  intro s mb hs
  refine ⟨fun hbad => exec_row_of_perform hs (cmdSetMode_badArgument s (targetMode?_eq_none hbad)),
    fun hstop => ⟨fun h0 => ?straight, ?refused⟩,
    fun hrun m hm => exec_row_of_perform hs (cmdSetMode_running (targetMode?_of_number hm) hrun)⟩
  case straight =>
    have hm : targetMode? mb = some .straight := targetMode?_of_number (.inl ⟨h0, rfl⟩)
    exact exec_row_of_perform hs (cmdSetMode_stopped_straight hm hstop)
  case refused =>
    rintro (h1 | h2)
    · have hm : targetMode? mb = some .observe := targetMode?_of_number (.inr (.inl ⟨h1, rfl⟩))
      exact exec_row_of_perform hs (cmdSetMode_stopped_refuses hm (by decide) hstop)
    · have hm : targetMode? mb = some .enforce := targetMode?_of_number (.inr (.inr ⟨h2, rfl⟩))
      exact exec_row_of_perform hs (cmdSetMode_stopped_refuses hm (by decide) hstop)

end Sys2Proof.Modes
end

section
/-! PROOFS. The memory path's tables (Chapters 5 to 8): what replacing one item does to the live transactions. -/

namespace Sys2Proof.Path

open Sys2Proof.Machine Sys2Proof.Safety Sys2Proof.Claims

/-! ## Replacing one item of a table -/

/-- A table around one of its items, and with that item replaced. -/
theorem setAt_split {α : Type} {n : Nat} (v : Vector α n) (i : Fin n) :
    ∃ l r, v.toList = l ++ v[i] :: r ∧ ∀ a, (setAt v i a).toList = l ++ a :: r := by
  refine ⟨v.toList.take i, v.toList.drop (i + 1), ?_, fun a => ?_⟩
  · have := List.take_append_drop i.val v.toList
    rw [List.drop_eq_getElem_cons (by simp)] at this
    simpa using this.symm
  · rw [setAt, Vector.toList_set, List.set_eq_take_append_cons_drop, if_pos (by simp)]

/-- The head of one list of a table leaves. -/
theorem flatten_setAt_tail {α : Type} {n : Nat} {v : Vector (List α) n} {i : Fin n} {a : α} {rest : List α}
    (h : v[i] = a :: rest) : v.toList.flatten.Perm (a :: (setAt v i rest).toList.flatten) := by
  obtain ⟨l, r, hv, hs⟩ := setAt_split v i
  rw [hv, hs, h]
  simp

/-- One list of a table gains an item at its end. -/
theorem flatten_setAt_append {α : Type} {n : Nat} (v : Vector (List α) n) (i : Fin n) (a : α) :
    (setAt v i (v[i] ++ [a])).toList.flatten.Perm (a :: v.toList.flatten) := by
  obtain ⟨l, r, hv, hs⟩ := setAt_split v i
  rw [hv, hs]
  have h : (l.flatten ++ v[i] ++ a :: r.flatten).Perm (a :: (l.flatten ++ v[i] ++ r.flatten)) := List.perm_middle
  simpa using h

/-- An item that showed nothing is replaced by one that shows `k`. -/
theorem filterMap_setAt_gain {α β : Type} {n : Nat} {f : α → Option β} {v : Vector α n} {i : Fin n} {a : α}
    {k : β} (hold : f v[i] = none) (hnew : f a = some k) :
    ((setAt v i a).toList.filterMap f).Perm (k :: v.toList.filterMap f) := by
  obtain ⟨l, r, hv, hs⟩ := setAt_split v i
  rw [hv, hs, List.filterMap_append, List.filterMap_append, List.filterMap_cons_none hold,
    List.filterMap_cons_some hnew]
  exact List.perm_middle

/-- An item that showed `k` is replaced by one that shows nothing. -/
theorem filterMap_setAt_lose {α β : Type} {n : Nat} {f : α → Option β} {v : Vector α n} {i : Fin n} {a : α}
    {k : β} (hold : f v[i] = some k) (hnew : f a = none) :
    (v.toList.filterMap f).Perm (k :: (setAt v i a).toList.filterMap f) := by
  obtain ⟨l, r, hv, hs⟩ := setAt_split v i
  rw [hv, hs, List.filterMap_append, List.filterMap_append, List.filterMap_cons_none hnew,
    List.filterMap_cons_some hold]
  exact List.perm_middle

/-- An item is replaced by one that shows the same. -/
theorem filterMap_setAt_same {α β : Type} {n : Nat} {f : α → Option β} {v : Vector α n} {i : Fin n} {a : α}
    (h : f a = f v[i]) : (setAt v i a).toList.filterMap f = v.toList.filterMap f := by
  obtain ⟨l, r, hv, hs⟩ := setAt_split v i
  rw [hv, hs]
  simp [List.filterMap_append, List.filterMap_cons, h]

/-- A function that leaves what every item shows leaves what the table shows. -/
theorem filterMap_mapAll {α β : Type} {n : Nat} {f : α → Option β} {g : α → α} (h : ∀ a, f (g a) = f a)
    (v : Vector α n) : (mapAll g v).toList.filterMap f = v.toList.filterMap f := by
  have hmap : (mapAll g v).toList = v.toList.map g := by
    apply List.ext_getElem <;> simp
  have hshow : f ∘ g = f := funext h
  rw [hmap, List.filterMap_map, hshow]

/-- A table as the list of its items. -/
theorem toList_eq_map_finRange {α : Type} {n : Nat} (v : Vector α n) :
    v.toList = (List.finRange n).map fun i => v[i] := by
  apply List.ext_getElem <;> simp

/-! ## Live transactions (R75, R77) -/

/-- The requester and tag of a held entry. -/
def heldKey (e : HeldEntry) : Requester × Tag := (e.request.requester, e.request.tag)

/-- The requester and tag of an OPEN entry. -/
def openKey : OttEntry → Option (Requester × Tag)
  | .opened t _ => some (t.requester, t.tag)
  | .free | .expired _ => none

theorem liveKeys_eq (s : State) :
    liveKeys s = s.hold.toList.flatten.map heldKey ++ s.ott.toList.filterMap openKey := by
  have h : (fun x : OttEntry => match x with
    | .opened t _ => some (t.requester, t.tag)
    | .free | .expired _ => none) = openKey := by
    funext x
    cases x <;> rfl
  rw [← h]
  rfl

theorem openCount_eq (s : State) : openCount s = (s.ott.toList.filterMap openKey).length := by
  unfold openCount
  induction s.ott.toList with
  | nil => rfl
  | cons x l ih => cases x <;> simp [OttEntry.isOpen, openKey, List.countP_cons, List.filterMap_cons, ih]

theorem storeCount_eq (s : State) : storeCount s = s.hold.toList.flatten.length := by
  rw [storeCount, List.length_flatten]

/-- The live count is the number of live transactions (R75). -/
theorem liveCount_eq (s : State) : liveCount s = (liveKeys s).length := by
  rw [liveCount, liveKeys_eq, storeCount_eq, openCount_eq, List.length_append, List.length_map]

/-- A requester and tag are live exactly when some live transaction carries them (R77). -/
theorem liveTag_iff (s : State) (r : Requester) (t : Tag) : liveTag s r t = true ↔ (r, t) ∈ liveKeys s := by
  have hopen : ∀ x : OttEntry, x.carries r t = true ↔ openKey x = some (r, t) := by
    intro x
    cases x <;> simp [OttEntry.carries, openKey]
  simp only [liveTag, Bool.or_eq_true, List.any_eq_true, liveKeys_eq, List.mem_append, List.mem_map,
    List.mem_flatten, List.mem_filterMap, hopen, HeldEntry.carries, heldKey, Bool.and_eq_true, beq_iff_eq,
    Prod.mk.injEq]
  grind

/-- The head of a queue leaves the live transactions (R90). -/
theorem liveKeys_popHead {s : State} {p : Partition} {e : HeldEntry} {rest : List HeldEntry}
    (h : s.hold[p] = e :: rest) : (liveKeys s).Perm (heldKey e :: liveKeys (popHead p s)) := by
  have hp : popHead p s = { s with hold := setAt s.hold p rest } := by simp only [popHead, h, List.tail_cons]
  rw [hp, liveKeys_eq, liveKeys_eq]
  exact ((flatten_setAt_tail h).map heldKey).append_right _

/-- Fewer entries are held by one once a head leaves. -/
theorem storeCount_popHead {s : State} {p : Partition} {e : HeldEntry} {rest : List HeldEntry}
    (h : s.hold[p] = e :: rest) : storeCount s = storeCount (popHead p s) + 1 := by
  have hp : popHead p s = { s with hold := setAt s.hold p rest } := by simp only [popHead, h, List.tail_cons]
  rw [hp, storeCount_eq, storeCount_eq, (flatten_setAt_tail h).length_eq, List.length_cons]

/-- An OPEN entry gives way to one that is not. -/
theorem liveKeys_close {s : State} {i : OttIndex} {x : OttEntry} {k : Requester × Tag}
    (hold : openKey s.ott[i] = some k) (hnew : openKey x = none) :
    (liveKeys s).Perm (k :: liveKeys { s with ott := setAt s.ott i x }) := by
  rw [liveKeys_eq, liveKeys_eq]
  exact ((filterMap_setAt_lose hold hnew).append_left _).trans List.perm_middle

/-- An entry that is not OPEN gives way to an OPEN one. -/
theorem liveKeys_open {s : State} {i : OttIndex} {x : OttEntry} {k : Requester × Tag}
    (hold : openKey s.ott[i] = none) (hnew : openKey x = some k) :
    (liveKeys { s with ott := setAt s.ott i x }).Perm (k :: liveKeys s) := by
  rw [liveKeys_eq, liveKeys_eq]
  exact ((filterMap_setAt_gain hold hnew).append_left _).trans List.perm_middle

/-- An entry gives way to one with the same live transaction, or none for none. -/
theorem liveKeys_same {s : State} {i : OttIndex} {x : OttEntry} (h : openKey x = openKey s.ott[i]) :
    liveKeys { s with ott := setAt s.ott i x } = liveKeys s := by
  rw [liveKeys_eq, liveKeys_eq]
  exact congrArg _ (filterMap_setAt_same h)

/-- A change of every entry that leaves each live transaction. -/
theorem liveKeys_mapAll {s t : State} {g : OttEntry → OttEntry} (h : ∀ x, openKey (g x) = openKey x)
    (hhold : t.hold = s.hold) (hott : t.ott = mapAll g s.ott) : liveKeys t = liveKeys s := by
  rw [liveKeys_eq, liveKeys_eq, hhold, hott, filterMap_mapAll h]

/-- An admitted request joins the live transactions (R96). -/
theorem liveKeys_enqueue (p : Partition) (q : Taken) (s : State) :
    (liveKeys (enqueue p q s)).Perm ((q.requester, q.tag) :: liveKeys s) := by
  rw [liveKeys_eq, liveKeys_eq]
  exact ((flatten_setAt_append s.hold p _).map heldKey).append_right _

theorem storeCount_enqueue (p : Partition) (q : Taken) (s : State) :
    storeCount (enqueue p q s) = storeCount s + 1 := by
  rw [storeCount_eq, storeCount_eq]
  exact (flatten_setAt_append s.hold p _).length_eq

/-! ## One entry of the OTT under the law of the Offer Slot (R74, R107, R120, R132) -/

/-- The transaction is marked as in the Offer Slot exactly where its index is offered, and is then the request
offered. -/
def SlotFits (o : Option Offer) (i : OttIndex) (t : Transaction) : Prop :=
  (t.inSlot = true ↔ ∃ f, o = some f ∧ f.mtag = i) ∧
  ∀ f, o = some f → f.mtag = i →
    f.requester = t.requester ∧ f.addr = t.addr ∧ f.lenLess1 = t.lenLess1 ∧ f.kind = t.kind

/-- What the law of the Offer Slot says of one entry. -/
def EntryFits (o : Option Offer) (drst : Bool) (i : OttIndex) : OttEntry → Prop
  | .free => True
  | .opened t n => SlotFits o i t ∧ n ≤ 16384 ∧ drst = false
  | .expired t => SlotFits o i t ∧ drst = false

/-- What the law of the Offer Slot says of the slot itself. -/
def OfferFits (o : Option Offer) (drst : Bool) : Prop :=
  (∀ f, o = some f → dataFits f.kind f.lenLess1 f.data) ∧ (drst = true → o = none)

theorem offered_iff (s : State) (i : OttIndex) : offered s i = true ↔ ∃ f, s.offer = some f ∧ f.mtag = i := by
  cases h : s.offer <;> simp [offered, h]

/-- The law of the Offer Slot, entry by entry. -/
theorem slotLaw_iff (s : State) :
    SlotLaw s ↔ (∀ i : OttIndex, EntryFits s.offer s.pins.drst i s.ott[i]) ∧ OfferFits s.offer s.pins.drst := by
  have hslot : ∀ (i : OttIndex) (t : Transaction), SlotFits s.offer i t ↔
      (t.inSlot == offered s i) = true ∧ (offered s i = true → (s.offer.all fun o =>
        o.requester == t.requester && o.addr == t.addr && o.lenLess1 == t.lenLess1 &&
          decide (o.kind = t.kind)) = true) := by
    intro i t
    rw [beq_iff_eq, Bool.eq_iff_iff, offered_iff, SlotFits]
    cases s.offer <;> simp [and_assoc]
  have hentry : ∀ i : OttIndex, EntryFits s.offer s.pins.drst i s.ott[i] ↔
      ((entryTransaction s.ott[i]).all (fun t => t.inSlot == offered s i) = true ∧
      (offered s i = true → (entryTransaction s.ott[i]).all (fun t => s.offer.all fun o =>
        o.requester == t.requester && o.addr == t.addr && o.lenLess1 == t.lenLess1 &&
          decide (o.kind = t.kind)) = true) ∧
      deadlineFits s.ott[i] = true ∧ (s.pins.drst = true → (s.ott[i]).isFree = true)) := by
    intro i
    cases s.ott[i] <;> simp [EntryFits, hslot, entryTransaction, deadlineFits, OttEntry.isFree, and_assoc]
  have hoffer : OfferFits s.offer s.pins.drst ↔
      (s.offer.all (fun o => decide (dataFits o.kind o.lenLess1 o.data)) = true ∧
      (s.pins.drst = true → s.offer = none)) := by
    cases s.offer <;> simp [OfferFits]
  simp only [hentry, hoffer, SlotLaw]
  constructor
  · rintro ⟨hmark, hown, hdata, hticks, hdrst⟩
    exact ⟨fun i => ⟨hmark i, hown i, hticks i, fun hd => (hdrst hd).2 i⟩, hdata, fun hd => (hdrst hd).1⟩
  · rintro ⟨h, hdata, hdrst⟩
    obtain ⟨hmark, h⟩ := forall_and.mp h
    obtain ⟨hown, h⟩ := forall_and.mp h
    obtain ⟨hticks, hfree⟩ := forall_and.mp h
    exact ⟨hmark, hown, hdata, hticks, fun hd => ⟨hdrst hd, fun i => hfree i hd⟩⟩

/-- One entry is replaced by another that fits. -/
theorem entryFits_setAt {o : Option Offer} {drst : Bool} {v : Vector OttEntry 32} {i : OttIndex} {x : OttEntry}
    (h : ∀ j : OttIndex, EntryFits o drst j v[j]) (hx : EntryFits o drst i x) (j : OttIndex) :
    EntryFits o drst j (setAt v i x)[j] := by
  rw [setAt_get]
  split
  case isTrue hij => exact hij ▸ hx
  case isFalse => exact h j

/-- Every entry changes to one that fits, under the same offer. -/
theorem slotLaw_mapAll {s t : State} {g : OttEntry → OttEntry} (h : SlotLaw s) (hoffer : t.offer = s.offer)
    (hdrst : t.pins.drst = s.pins.drst) (hott : t.ott = mapAll g s.ott)
    (hg : ∀ i x, EntryFits s.offer s.pins.drst i x → EntryFits s.offer s.pins.drst i (g x)) : SlotLaw t := by
  obtain ⟨hentries, hfits⟩ := (slotLaw_iff s).mp h
  rw [slotLaw_iff, hoffer, hdrst, hott]
  refine ⟨fun i => ?_, hfits⟩
  have hget : (mapAll g s.ott)[i] = g s.ott[i] := getElem_mapAll ..
  rw [hget]
  exact hg i _ (hentries i)

end Sys2Proof.Path
end

section
/-! PROOFS. The laws of the manual under the shared operations: what each operation needs to keep them. -/

namespace Sys2Proof.Invariant

open Sys2Proof.Machine Sys2Proof.Safety Sys2Proof.Claims Sys2Proof.Path

/-! ## The laws on a part out of pin reset -/

/-- Every law but that of Mode Control, on a part whose RST_N is deasserted. A departure from the hold queues may
leave a drain to be ended, so that Mode Control's law is stated beside these. -/
structure Rest (s : State) : Prop where
  time      : TimeLaw s
  sequencer : SequencerLaw s
  bank      : BankLaw s
  switch    : SwitchLaw s
  credit    : CreditLaw s
  hold      : HoldLaw s
  tags      : TagLaw s
  returns   : ReturnLaw s
  slot      : SlotLaw s
  incidents : IncidentLaw s
  link      : LinkLaw s
  awake     : s.pins.rst = false
  noResponse : s.memPresented = none

theorem Rest.inv {s : State} (h : Rest s) (hm : ModeLaw s) : Inv s where
  time := h.time
  sequencer := h.sequencer
  bank := h.bank
  switch := h.switch
  credit := h.credit
  mode := hm
  hold := h.hold
  tags := h.tags
  returns := h.returns
  slot := h.slot
  incidents := h.incidents
  link := h.link
  reset := ⟨by simp [h.awake], by simp [h.noResponse]⟩

/-- Out of pin reset no response stays presented (R87). -/
theorem rest_of_inv {s : State} (h : Inv s) (hr : s.pins.rst = false) : Rest s where
  time := h.time
  sequencer := h.sequencer
  bank := h.bank
  switch := h.switch
  credit := h.credit
  hold := h.hold
  tags := h.tags
  returns := h.returns
  slot := h.slot
  incidents := h.incidents
  link := h.link
  awake := hr
  noResponse := by
    obtain ⟨-, hmem⟩ := h.reset
    rw [hr] at hmem
    simpa using hmem

/-! ## Incidents -/

/-- What the law says of the Incident Unit alone (R137, R138, R142). -/
abbrev RecordsFit (u : IncidentUnit) : Prop :=
  u.queue.length ≤ Config.incidentCapacity ∧
  u.queue.map (fun r => r.seq) =
    (List.range u.queue.length).map (fun k => u.nextSeq - BitVec.ofNat 16 (u.queue.length - k)) ∧
  (∀ r ∈ u.queue, 1 ≤ r.repeatCount ∧ r.repeatCount ≤ 65535) ∧ u.lost ≤ 255

theorem incidentLaw_iff (s : State) :
    IncidentLaw s ↔ RecordsFit s.incidents ∧ 1 ≤ s.settings.alertThreshold.val := by
  simp only [IncidentLaw, RecordsFit, and_assoc]

/-- Folding an incident into the newest record keeps number, order and sequence numbers (R141). -/
theorem coalesce_keeps_fit {u : IncidentUnit} {n : IncidentRecord} (h : RecordsFit u)
    (hn : u.queue.getLast? = some n) : RecordsFit (u.coalesce n) := by
  obtain ⟨hlen, hseq, hrep, hlost⟩ := h
  obtain ⟨old, hq⟩ := List.getLast?_eq_some_iff.mp hn
  rw [hq] at hlen hseq hrep
  obtain ⟨hmin, hmax⟩ := hrep n (by simp)
  refine ⟨by simpa [IncidentUnit.coalesce, hq] using hlen, by simpa [IncidentUnit.coalesce, hq] using hseq, ?_,
    hlost⟩
  intro r hr
  rcases (by simpa [IncidentUnit.coalesce, hq] using hr : r ∈ old ∨ r = _) with hold | rfl
  · exact hrep r (by simp [hold])
  · dsimp only
    omega

/-- A new record takes the next sequence number (R142). -/
theorem add_keeps_seqs {n : Half} {seqs : List Half}
    (h : seqs = (List.range seqs.length).map fun k => n - BitVec.ofNat 16 (seqs.length - k)) :
    seqs ++ [n] = (List.range (seqs.length + 1)).map fun k => n + 1 - BitVec.ofNat 16 (seqs.length + 1 - k) := by
  rw [List.range_succ, List.map_append]
  congr 1
  · refine h.trans (List.map_congr_left fun k hk => ?_)
    have hk := List.mem_range.mp hk
    rw [show seqs.length + 1 - k = (seqs.length - k) + 1 by omega, BitVec.ofNat_add]
    bv_omega
  · rw [List.map_singleton, Nat.add_sub_cancel_left]
    exact congrArg (fun m => [m]) (by bv_omega)

/-- An incident added or lost keeps the Incident Unit within its law (R142, R143). -/
theorem addOrLose_keeps_fit {u : IncidentUnit} (i : Incident) (frame : Option Word32) (phase : Option ShownPhase)
    (h : RecordsFit u) : RecordsFit (u.addOrLose i frame phase) := by
  obtain ⟨hlen, hseq, hrep, hlost⟩ := h
  unfold IncidentUnit.addOrLose
  split
  case isTrue hroom =>
    refine ⟨List.length_append ▸ hroom, ?_, ?_, hlost⟩
    · have := add_keeps_seqs (n := u.nextSeq) (seqs := u.queue.map fun r => r.seq) (by simpa using hseq)
      simpa [IncidentUnit.newRecord] using this
    · intro r hr
      rcases (by simpa using hr : r ∈ u.queue ∨ r = _) with hold | rfl
      · exact hrep r hold
      · exact ⟨Nat.le_refl 1, by simp [IncidentUnit.newRecord]⟩
  case isFalse => exact ⟨hlen, hseq, hrep, Nat.min_le_right ..⟩

/-- Recording an incident keeps the Incident Unit within its law (R141 to R143). -/
theorem take_keeps_fit {u : IncidentUnit} (i : Incident) (frame : Option Word32) (phase : Option ShownPhase)
    (h : RecordsFit u) : RecordsFit (u.take i frame phase) := by
  unfold IncidentUnit.take
  split
  case h_1 n hn =>
    split
    · exact coalesce_keeps_fit h hn
    · exact addOrLose_keeps_fit i frame phase h
  case h_2 => exact addOrLose_keeps_fit i frame phase h

/-- An incident may be recorded at any time. -/
theorem record_keeps_rest {s : State} (h : Rest s) (i : Incident) : Rest (record i s) :=
  { h with
    incidents := by
      obtain ⟨hfit, hthr⟩ := (incidentLaw_iff s).mp h.incidents
      exact (incidentLaw_iff _).mpr ⟨take_keeps_fit i _ _ hfit, hthr⟩ }

/-! ## The memory path -/

/-- A response enters the Return Queue where there is room for it (R82, R84). -/
theorem respond_keeps_rest {s : State} (h : Rest s) (r : UpResponse)
    (room : s.returnQueue.length + liveCount s < Config.returnBound) : Rest (respond r s) :=
  { h with
    returns := by
      have hlive : liveCount (respond r s) = liveCount s := rfl
      simp only [ReturnLaw, respond, List.length_append, List.length_singleton] at hlive ⊢
      omega }

/-- A count changes no law. -/
theorem count_keeps_rest {s : State} (h : Rest s) (f : Stats → Stats) (p : Option Partition) : Rest (count f p s) :=
  { h with }

/-- A charge keeps the credit of the partition within its ranges (R47, R50 to R52). -/
theorem charge_fits {c : Credit} (n : Nat) (hg : c.granted ≤ 4096) (hlo : -65536 ≤ c.remaining)
    (hhi : c.remaining ≤ 4096) (hsum : (c.charged : Int) + c.remaining = c.granted) :
    (c.charge n).granted ≤ 4096 ∧ -65536 ≤ (c.charge n).remaining ∧ (c.charge n).remaining ≤ 4096 ∧
    (c.charge n).charged ≤ 69632 ∧
    ((c.charge n).charged : Int) + (c.charge n).remaining = (c.charge n).granted := by
  unfold Credit.charge
  split <;> refine ⟨hg, ?_, ?_, ?_, ?_⟩ <;> dsimp only <;> omega

/-- Outside STOPPED a partition may be charged (R50, R58). -/
theorem charge_keeps_rest {s : State} (h : Rest s) (hrun : s.seq.state ≠ .stopped) (p : Partition) (n : Nat) :
    Rest (charge p n s) :=
  { h with
    credit := by
      intro q
      have hcredit : (charge p n s).credit[q] = if p = q then (s.credit[p]).charge n else s.credit[q] := setAt_get ..
      have hstate : (charge p n s).seq.state ≠ .stopped := hrun
      rw [hcredit]
      split
      case isTrue =>
        obtain ⟨hg, hlo, hhi, -, hsum, -⟩ := h.credit p
        obtain ⟨hg', hlo', hhi', hc', hsum'⟩ := charge_fits n hg hlo hhi hsum
        exact ⟨hg', hlo', hhi', hc', hsum', fun hs => absurd hs hstate⟩
      case isFalse => exact h.credit q }

/-- What joins the live transactions under a new key keeps them distinct (R77). -/
theorem tagLaw_of_gain {s t : State} {k : Requester × Tag} (h : TagLaw s)
    (hk : (liveKeys t).Perm (k :: liveKeys s)) (hnew : k ∉ liveKeys s) : TagLaw t :=
  hk.nodup_iff.mpr (List.nodup_cons.mpr ⟨hnew, h⟩)

/-- What leaves the live transactions leaves the others distinct (R77). -/
theorem tagLaw_of_loss {s t : State} {k : Requester × Tag} (h : TagLaw s)
    (hk : (liveKeys s).Perm (k :: liveKeys t)) : TagLaw t :=
  (hk.nodup_iff.mp h).of_cons

/-- One live transaction more. -/
theorem liveCount_of_cons {s t : State} {k : Requester × Tag} (hk : (liveKeys t).Perm (k :: liveKeys s)) :
    liveCount t = liveCount s + 1 := by
  rw [liveCount_eq, liveCount_eq, hk.length_eq, List.length_cons]

/-- The same live transactions, and no response more. -/
theorem sameLive_laws {s t : State} (hk : liveKeys t = liveKeys s) (hq : t.returnQueue.length ≤ s.returnQueue.length)
    (ht : TagLaw s) (hret : ReturnLaw s) : TagLaw t ∧ ReturnLaw t := by
  have hlive : liveCount t = liveCount s := by rw [liveCount_eq, liveCount_eq, hk]
  simp only [TagLaw, ReturnLaw, hk] at ht hret ⊢
  exact ⟨ht, by omega⟩

/-- The data of a taken request fits its length (R73). -/
def TakenFits (q : Taken) : Prop := dataFits q.kind q.lenLess1 q.data

theorem takenOf_fits (q : Request) : TakenFits (takenOf q) := by
  unfold TakenFits dataFits takenOf
  have hlen : min (q.lenLess1.val + 1) 16 = q.lenLess1.val + 1 := Nat.min_eq_left q.lenLess1.isLt
  cases q.kind
  case read => rfl
  case write => simpa only [Request.length, List.length_take, Vector.length_toList] using hlen

/-- A request enters an empty Offer Slot under a FREE index and a key that is not live (R77, R121). -/
theorem openAt_keeps_rest {s : State} (h : Rest s) {i : OttIndex} {q : Taken} (p : Option Partition)
    (hfree : s.ott[i] = .free) (hoffer : s.offer = none) (hdrst : s.pins.drst = false) (hq : TakenFits q)
    (hnew : (q.requester, q.tag) ∉ liveKeys s)
    (room : s.returnQueue.length + liveCount s < Config.returnBound) : Rest (openAt i q p s) := by
  have hkeys : (liveKeys (openAt i q p s)).Perm ((q.requester, q.tag) :: liveKeys s) :=
    liveKeys_open (by rw [hfree]; rfl) rfl
  refine { h with tags := tagLaw_of_gain h.tags hkeys hnew, returns := ?_, slot := ?_ }
  · have := liveCount_of_cons hkeys
    simp only [ReturnLaw, openAt_returnQueue]
    omega
  · obtain ⟨hentries, -⟩ := (slotLaw_iff s).mp h.slot
    refine (slotLaw_iff _).mpr ⟨fun j => ?_, fun f hf => ?_, fun hd => ?_⟩
    · have hget : (openAt i q p s).ott[j] = _ := setAt_get s.ott i j _
      rw [hget]
      have hdead := s.settings.deadline.isLt
      split
      case isTrue hij =>
        subst hij
        refine ⟨⟨by simp [openAt], ?_⟩, by simp only [deadlineTicks]; omega, hdrst⟩
        rintro f hf -
        cases hf
        exact ⟨rfl, rfl, rfl, rfl⟩
      case isFalse hij =>
        have hfit := hentries j
        rw [hoffer] at hfit
        cases hx : s.ott[j] with
        | free => trivial
        | opened t n => simpa [hx, EntryFits, SlotFits, openAt, hij] using hfit
        | expired t => simpa [hx, EntryFits, SlotFits, openAt, hij] using hfit
    · cases hf
      exact hq
    · simp [openAt, hdrst] at hd

/-- A queue of the table after the head of one has left. -/
theorem hold_popHead (p : Partition) (s : State) (q : Partition) :
    (popHead p s).hold[q] = if p = q then (s.hold[p]).tail else s.hold[q] := setAt_get ..

/-- The head of a queue leaves (R90). -/
theorem popHead_keeps_rest {s : State} (h : Rest s) {p : Partition} {e : HeldEntry} {rest : List HeldEntry}
    (hp : s.hold[p] = e :: rest) : Rest (popHead p s) := by
  have hkeys := liveKeys_popHead hp
  have hcount := storeCount_popHead hp
  obtain ⟨hstore, hqueues⟩ := h.hold
  refine { h with hold := ⟨by omega, fun q => ?_⟩, tags := tagLaw_of_loss h.tags hkeys, returns := ?_ }
  · rw [hold_popHead]
    split
    case isTrue =>
      obtain ⟨hlen, hent⟩ := hqueues p
      exact ⟨by rw [List.length_tail]; omega, fun x hx => by subst p; exact hent x (List.mem_of_mem_tail hx)⟩
    case isFalse => exact hqueues q
  · have hlive := liveCount_of_cons hkeys
    have hret := h.returns
    simp only [ReturnLaw, popHead_returnQueue] at hret ⊢
    omega

/-- A request is admitted where its queue and the Hold Store have room and its key is not live (R77, R94 to R96). -/
theorem enqueue_keeps_rest {s : State} (h : Rest s) {p : Partition} {q : Taken} (hq : TakenFits q)
    (hnew : (q.requester, q.tag) ∉ liveKeys s) (hlen : (s.hold[p]).length < 32)
    (hstore : storeCount s < Config.holdCapacity)
    (room : s.returnQueue.length + liveCount s < Config.returnBound) : Rest (enqueue p q s) := by
  have hkeys := liveKeys_enqueue p q s
  have hcount := storeCount_enqueue p q s
  obtain ⟨-, hqueues⟩ := h.hold
  refine { h with hold := ⟨by omega, fun j => ?_⟩, tags := tagLaw_of_gain h.tags hkeys hnew, returns := ?_ }
  · have hget : (enqueue p q s).hold[j] = _ := setAt_get s.hold p j _
    rw [hget]
    split
    case isTrue hj =>
      subst hj
      refine ⟨List.length_append ▸ hlen, fun x hx => ?_⟩
      rcases List.mem_append.mp hx with hx | hx
      · exact (hqueues p).2 x hx
      · obtain rfl := List.mem_singleton.mp hx
        exact ⟨rfl, hq⟩
    case isFalse => exact hqueues j
  · have hlive := liveCount_of_cons hkeys
    have hret : (enqueue p q s).returnQueue = s.returnQueue := rfl
    rw [ReturnLaw, hret]
    omega

/-- An entry becomes FREE. -/
theorem freeEntry_keeps_rest {s : State} (h : Rest s) (i : OttIndex) :
    Rest { s with ott := setAt s.ott i .free } := by
  obtain ⟨hentries, hoffer⟩ := (slotLaw_iff s).mp h.slot
  have hslot : SlotLaw { s with ott := setAt s.ott i .free } :=
    (slotLaw_iff _).mpr ⟨entryFits_setAt hentries trivial, hoffer⟩
  cases hkey : openKey s.ott[i] with
  | none =>
    obtain ⟨htags, hreturns⟩ := sameLive_laws (t := { s with ott := setAt s.ott i .free }) (liveKeys_same hkey.symm)
      (Nat.le_refl _) h.tags h.returns
    exact { h with slot := hslot, tags := htags, returns := hreturns }
  | some k =>
    have hkeys := liveKeys_close (x := .free) hkey rfl
    refine { h with slot := hslot, tags := tagLaw_of_loss h.tags hkeys, returns := ?_ }
    have hlive := liveCount_of_cons hkeys
    have hret := h.returns
    simp only [ReturnLaw] at hret ⊢
    omega

/-- An OPEN entry becomes EXPIRED (R124). -/
theorem quarantine_keeps_rest {s : State} (h : Rest s) {i : OttIndex} {t : Transaction} {n : Nat}
    (hi : s.ott[i] = .opened t n) : Rest { s with ott := setAt s.ott i (.expired t) } := by
  obtain ⟨hentries, hoffer⟩ := (slotLaw_iff s).mp h.slot
  have hkeys := liveKeys_close (s := s) (i := i) (x := .expired t) (by rw [hi]; rfl) rfl
  have hfit := hentries i
  rw [hi] at hfit
  obtain ⟨hslot, -, hdrst⟩ := hfit
  refine { h with
    slot := (slotLaw_iff _).mpr ⟨entryFits_setAt hentries ⟨hslot, hdrst⟩, hoffer⟩
    tags := tagLaw_of_loss h.tags hkeys, returns := ?_ }
  have hlive := liveCount_of_cons hkeys
  have hret := h.returns
  simp only [ReturnLaw] at hret ⊢
  omega

/-! ## Modes and departures (R67, R69, R102) -/

@[simp] theorem changeMode_mode (m : Mode) (t : Option Mode) (s : State) :
    (changeMode m t s).mode = { s.mode with inForce := m, drainTarget := t } := by
  unfold changeMode
  dsimp only
  split <;> rfl

theorem changeMode_keeps_rest {s : State} (h : Rest s) (m : Mode) (t : Option Mode) : Rest (changeMode m t s) := by
  have hset : Rest { s with mode := { s.mode with inForce := m, drainTarget := t } } := { h with }
  unfold changeMode
  dsimp only
  split
  · exact hset
  · exact record_keeps_rest hset _

/-- Mode Control's law but for what a drain waits for: a departure may have emptied the hold queues. -/
abbrev DrainLaw (s : State) : Prop :=
  (s.mode.inForce = .draining ↔ s.mode.drainTarget.isSome = true) ∧
  (s.mode.drainTarget ≠ some .enforce ∧ s.mode.drainTarget ≠ some .draining) ∧
  s.mode.requested ≠ some .draining ∧
  (s.seq.state = .stopped → s.mode.inForce = .straight ∧ s.mode.requested = none) ∧
  (s.mode.inForce.passes = true → storeEmpty s = true)

theorem modeLaw_iff (s : State) :
    ModeLaw s ↔ DrainLaw s ∧ (s.mode.inForce = .draining → storeEmpty s = false) := by
  constructor
  · rintro ⟨htarget, hne, hreq, hstop, hheld, hpass⟩
    exact ⟨⟨htarget, hne, hreq, hstop, hpass⟩, hheld⟩
  · rintro ⟨⟨htarget, hne, hreq, hstop, hpass⟩, hheld⟩
    exact ⟨htarget, hne, hreq, hstop, hheld, hpass⟩

/-- A drain that the last departure has emptied ends in its target (R69). -/
theorem completeDrain_keeps_laws {s : State} (h : Rest s) (hm : DrainLaw s) : Inv (completeDrain s) := by
  unfold completeDrain
  split
  case isTrue hd =>
    obtain ⟨hdrain, hempty⟩ := hd
    obtain ⟨htarget, ⟨hne, hnd⟩, hreq, hstop, -⟩ := hm
    obtain ⟨m, hm⟩ := Option.isSome_iff_exists.mp (htarget.mp hdrain)
    have hmd : m ≠ .draining := by rintro rfl; exact hnd hm
    have hst : s.seq.state ≠ .stopped := fun hs => by simp [(hstop hs).1] at hdrain
    have he : storeEmpty (changeMode m none s) = true := by simpa [storeEmpty] using hempty
    rw [hm, Option.getD_some]
    refine (changeMode_keeps_rest h m none).inv ?_
    simp [ModeLaw, he, hmd, hreq, hst]
  case isFalse hd =>
    refine h.inv ((modeLaw_iff s).mpr ⟨hm, fun hdrain => ?_⟩)
    simpa [hdrain] using hd

/-- Something held excludes the modes that pass requests, and so STOPPED too (R60). -/
theorem held_excludes_passing {s : State} (h : ModeLaw s) {p : Partition} {e : HeldEntry} {rest : List HeldEntry}
    (hp : s.hold[p] = e :: rest) : s.mode.inForce.passes = false ∧ s.seq.state ≠ .stopped := by
  obtain ⟨-, -, -, hstop, -, hpass⟩ := h
  have hheld : storeEmpty s ≠ true := fun he => by simpa [hp] using storeEmpty_iff.mp he p
  have hnp : s.mode.inForce.passes = false := by simpa using mt hpass hheld
  refine ⟨hnp, fun hs => ?_⟩
  rw [(hstop hs).1] at hnp
  cases hnp

/-- A departure by hold expiry (R102): the room its response takes is that of the departed. -/
theorem departExpired_keeps_laws {s : State} (h : Inv s) (hr : s.pins.rst = false) {p : Partition} {e : HeldEntry}
    {rest : List HeldEntry} (hp : s.hold[p] = e :: rest) (d : Half) : Inv (departExpired p d s e) := by
  have hrest := rest_of_inv h hr
  obtain ⟨hnp, hst⟩ := held_excludes_passing h.mode hp
  have hlive := liveCount_of_cons (liveKeys_popHead hp)
  have hret := h.returns
  have room : (popHead p s).returnQueue.length + liveCount (popHead p s) < Config.returnBound := by
    rw [popHead_returnQueue]
    omega
  refine completeDrain_keeps_laws (count_keeps_rest (record_keeps_rest
    (respond_keeps_rest (popHead_keeps_rest hrest hp) _ room) _) _ _) ?_
  obtain ⟨hdrain, -⟩ := (modeLaw_iff s).mp h.mode
  obtain ⟨htarget, hne, hreq, hstop, -⟩ := hdrain
  exact ⟨htarget, hne, hreq, hstop, fun hpass => absurd hpass (by simp [hnp])⟩

/-- The entries that leave are the first of their queue (R99 to R101). -/
theorem leaving_prefix (s : State) (p : Partition) : (leaving s p).1 <+: s.hold[p] := by
  unfold leaving
  dsimp only
  split
  · exact List.prefix_rfl
  · split
    · exact List.nil_prefix
    · exact List.takeWhile_prefix _

@[simp] theorem departExpired_hold (p : Partition) (d : Half) (s : State) (e : HeldEntry) :
    (departExpired p d s e).hold = (popHead p s).hold := by simp [departExpired]

/-- The first entries of a queue leave one after the other (R102). -/
theorem departures_keep_laws {p : Partition} (d : Half) (l : List HeldEntry) {s : State} (h : Inv s)
    (hr : s.pins.rst = false) (hl : l <+: s.hold[p]) : Inv (l.foldl (departExpired p d) s) := by
  induction l generalizing s with
  | nil => exact h
  | cons e l ih =>
    obtain ⟨rest, hrest⟩ := hl
    have hp : s.hold[p] = e :: (l ++ rest) := hrest.symm
    refine ih (departExpired_keeps_laws h hr hp d) (by simpa using hr) ⟨rest, ?_⟩
    rw [departExpired_hold, hold_popHead, if_pos rfl, hp, List.tail_cons]

theorem expireQueue_keeps_laws {s : State} (h : Inv s) (hr : s.pins.rst = false) (p : Partition) :
    Inv (expireQueue s p) := departures_keep_laws _ _ h hr (leaving_prefix s p)

/-- What each step of a fold keeps, the fold keeps. -/
theorem foldl_keeps {α β : Type} {P : β → Prop} {f : β → α → β} (hf : ∀ s a, P s → P (f s a)) (l : List α)
    {s : β} (h : P s) : P (l.foldl f s) := by
  induction l generalizing s with
  | nil => exact h
  | cons a l ih => exact ih (hf s a h)

/-- The hold queues' reaction to a frame start (R99). -/
theorem holdReaction_keeps_laws {s : State} (h : Inv s) (hr : s.pins.rst = false) : Inv (holdReaction s) := by
  have hkept := foldl_keeps (P := fun s => Inv s ∧ s.pins.rst = false) (f := expireQueue)
    (fun s p ⟨h, hr⟩ => ⟨expireQueue_keeps_laws h hr p, by rw [expireQueue_pins]; exact hr⟩) (List.finRange 8)
    ⟨h, hr⟩
  exact hkept.1

/-- Mode Control's law of the mode and drain target that taking a request brings (the table of R67). -/
theorem takenMode_fits {m r : Mode} {t : Option Mode} {empty : Bool} (hr : r ≠ .draining)
    (ht : m = .draining ↔ t.isSome = true)
    (hd : m = .draining → empty = false) (hp : m.passes = true → empty = true) :
    ((takenMode m r t empty).1 = .draining ↔ (takenMode m r t empty).2.isSome = true) ∧
    ((takenMode m r t empty).2 ≠ some .enforce ∧ (takenMode m r t empty).2 ≠ some .draining) ∧
    ((takenMode m r t empty).1 = .draining → empty = false) ∧
    ((takenMode m r t empty).1.passes = true → empty = true) := by
  cases m with
  | straight | observe =>
    obtain rfl : empty = true := hp rfl
    simp [takenMode, hr]
  | enforce => cases r <;> cases empty <;> simp [takenMode, Mode.passes] at hr ⊢
  | draining =>
    obtain rfl : empty = false := hd rfl
    cases r <;> simp [takenMode, Mode.passes] at hr ⊢

/-- Mode Control's reaction to a frame start (R67). -/
theorem modeReaction_keeps_laws {s : State} (h : Inv s) (hr : s.pins.rst = false) (hrun : s.seq.state ≠ .stopped) :
    Inv (modeReaction s) := by
  obtain ⟨htarget, -, hreq, -, hheld, hpass⟩ := h.mode
  unfold modeReaction
  split
  case h_1 => exact h
  case h_2 r hsome =>
    have hrd : r ≠ .draining := by rintro rfl; exact hreq hsome
    have hfits := takenMode_fits hrd htarget hheld hpass
    have hset := changeMode_keeps_rest (rest_of_inv h hr)
      (takenMode s.mode.inForce r s.mode.drainTarget (storeEmpty s)).1
      (takenMode s.mode.inForce r s.mode.drainTarget (storeEmpty s)).2
    refine Rest.inv { hset with } ?_
    obtain ⟨htarget', hne', hheld', hpass'⟩ := hfits
    simp only [ModeLaw, changeMode_mode, changeMode_seq, storeEmpty, changeMode_hold]
    exact ⟨htarget', hne', by simp, fun hs => absurd hs hrun, hheld', hpass'⟩

/-! ## Bank Control (R25, R34 to R36) -/

/-- What Bank Control and the bank law say of the banks while one of them is ACTIVE. -/
structure BanksReady (alternation : Bool) (b : BankControl) : Prop where
  active  : b.bank0.state = .active ∨ b.bank1.state = .active
  single  : ¬ (b.bank0.state = .active ∧ b.bank1.state = .active)
  passes0 : b.bank0.state ≠ .editing → closeChecks b.bank0.contents = none
  passes1 : b.bank1.state ≠ .editing → closeChecks b.bank1.contents = none
  pending : b.pendingSwitch.isSome = true → alternation = false
  target  : ∀ i, b.pendingSwitch = some i → (b.get i).state ≠ .active
  frames  : b.framesInBank ≤ 65535

theorem banksReady_of_inv {s : State} (h : Inv s) (hrun : s.seq.state ≠ .stopped) :
    BanksReady s.settings.alternation s.banks := by
  obtain ⟨hact, hsingle, hp0, hp1⟩ := h.bank
  obtain ⟨hpend, htarget, hframes, -⟩ := h.switch
  refine ⟨hact.mpr hrun, hsingle, hp0, hp1, fun hs => (hpend hs).2, fun i hi => ?_, hframes⟩
  simpa [hi] using htarget

/-- One bank is the ACTIVE one, and it passes the close checks (R25). -/
theorem BanksReady.active_bank {a : Bool} {b : BankControl} (h : BanksReady a b) :
    ∃ i, b.active = some i ∧ (b.get i).state = .active ∧ (b.get i.other).state ≠ .active ∧
      closeChecks (b.get i).contents = none := by
  obtain ⟨hact, hsingle, hp0, hp1, -⟩ := h
  by_cases h0 : b.bank0.state = .active
  · exact ⟨.bank0, by simp [BankControl.active, h0], h0, fun h1 => hsingle ⟨h0, h1⟩, hp0 (by simp [h0])⟩
  · have h1 := hact.resolve_left h0
    exact ⟨.bank1, by simp [BankControl.active, h0, h1], h1, h0, hp1 (by simp [h1])⟩

/-- The bank in force passes the close checks while a bank is ACTIVE (R25, R33). -/
theorem BanksReady.inForce_passes {a : Bool} {b : BankControl} (h : BanksReady a b) :
    closeChecks b.inForce = none := by
  obtain ⟨i, hi, -, -, hpass⟩ := h.active_bank
  rw [BankControl.inForce, hi]
  exact hpass

/-- Contents that pass the close checks fail none of them (R33). -/
theorem passes_all {c : Schedule} (h : closeChecks c = none) (code item : Nat) : ¬ CheckFails c code item := by
  have fits := Banks.closeChecks_fits c
  rw [h] at fits
  exact fits code item

theorem BanksReady.phaseCount_pos {a : Bool} {b : BankControl} (h : BanksReady a b) :
    0 < b.inForce.phaseCount.val :=
  Nat.pos_of_ne_zero fun h0 => passes_all h.inForce_passes 1 0 ⟨rfl, h0⟩

/-- No phase within the phase count of the bank in force is of length 0 (R33). -/
theorem BanksReady.ticks_pos {a : Bool} {b : BankControl} (h : BanksReady a b) {p : Phase}
    (hp : p.val < b.inForce.phaseCount.val) : b.inForce.ticks p ≠ 0 :=
  fun h0 => passes_all h.inForce_passes 2 p.val ⟨p, rfl, hp, h0⟩

/-- Bank Control's decision leaves one bank ACTIVE (R35). -/
theorem bankDecision_ready {s : State} (h : BanksReady s.settings.alternation s.banks) :
    BanksReady s.settings.alternation (bankDecision s).2 := by
  obtain ⟨i, hi, hact, hother, hpass⟩ := h.active_bank
  unfold bankDecision
  rw [hi]
  dsimp only
  split
  · split
    case isTrue hready =>
      have hp0 := h.passes0
      have hp1 := h.passes1
      cases i <;> exact
        ⟨by simp [BankControl.setState, BankControl.set, BankControl.get, BankId.other],
          by simp [BankControl.setState, BankControl.set, BankControl.get, BankId.other],
          fun _ => hp0 (by simp_all [BankControl.get, BankId.other]),
          fun _ => hp1 (by simp_all [BankControl.get, BankId.other]), by simp, by simp, h.frames⟩
    case isFalse => exact ⟨h.active, h.single, h.passes0, h.passes1, by simp, by simp, h.frames⟩
  · exact h

/-- The frames-in-bank count of a bank reaction stays within its range (R36). -/
theorem bankReaction_keeps_laws {s : State} (h : Inv s) (hr : s.pins.rst = false) (hrun : s.seq.state = .running)
    (first : Bool) (a : SwitchAttempt) : Inv (bankReaction first a s) := by
  have hcount : ∀ n, n ≤ 65535 → Rest { s with banks := { s.banks with framesInBank := n } } := by
    intro n hn
    obtain ⟨hpend, htarget, -, -⟩ := h.switch
    have hfirst : s.seq.firstPending = false := by
      obtain ⟨-, hrunning, -⟩ := h.sequencer
      exact (hrunning hrun).1
    exact { rest_of_inv h hr with switch := ⟨hpend, htarget, hn, by simp [hrun, hfirst]⟩ }
  cases a with
  | notDue => exact (hcount _ (by split <;> omega)).inv h.mode
  | switched b => exact (record_keeps_rest (hcount 1 (by omega)) _).inv h.mode
  | declined b => exact (record_keeps_rest (hcount 1 (by omega)) _).inv h.mode

/-! ## Frame start (R12, R13) -/

/-- What a frame start needs: the laws that it does not itself restore. A start of the sequencer meets it before the
sequencer has left STOPPED (R5). -/
structure FrameReady (s : State) : Prop where
  time      : TimeLaw s
  counts    : s.seq.gapElapsed ≤ 65535 ∧ s.seq.guardInForce ≤ 65535
  banks     : BanksReady s.settings.alternation s.banks
  mode      : ModeLaw s
  hold      : HoldLaw s
  tags      : TagLaw s
  returns   : ReturnLaw s
  slot      : SlotLaw s
  incidents : IncidentLaw s
  link      : LinkLaw s
  awake     : s.pins.rst = false
  noResponse : s.memPresented = none

theorem frameReady_of_inv {s : State} (h : Inv s) (hr : s.pins.rst = false) (hrun : s.seq.state ≠ .stopped) :
    FrameReady s where
  time := h.time
  counts := by
    obtain ⟨-, -, -, -, hgap, hguard⟩ := h.sequencer
    exact ⟨hgap, hguard⟩
  banks := banksReady_of_inv h hrun
  mode := h.mode
  hold := h.hold
  tags := h.tags
  returns := h.returns
  slot := h.slot
  incidents := h.incidents
  link := h.link
  awake := hr
  noResponse := (rest_of_inv h hr).noResponse

/-- Credit just refilled is within its ranges (R47 to R49). -/
theorem refill_fits (c : Credit) (r : PartRecord) :
    (c.refill r).granted ≤ 4096 ∧ -65536 ≤ (c.refill r).remaining ∧ (c.refill r).remaining ≤ 4096 ∧
    (c.refill r).charged ≤ 69632 ∧
    ((c.refill r).charged : Int) + (c.refill r).remaining = (c.refill r).granted := by
  have hbase := r.budgetBase.isLt
  unfold Credit.refill
  split
  · split <;> (dsimp only; omega)
  · dsimp only; omega

/-- The laws of the banks while one of them is ACTIVE and the sequencer is not STOPPED (R25, R34). -/
theorem BanksReady.laws {s : State} (h : BanksReady s.settings.alternation s.banks) (hrun : s.seq.state ≠ .stopped)
    (hfirst : s.seq.firstPending = true → s.banks.framesInBank = 0) : BankLaw s ∧ SwitchLaw s := by
  obtain ⟨hact, hsingle, hp0, hp1, hpend, htarget, hframes⟩ := h
  refine ⟨⟨⟨fun _ => hrun, fun _ => hact⟩, hsingle, hp0, hp1⟩, fun hs => ⟨hrun, hpend hs⟩, ?_, hframes,
    fun hs => hfirst (hs.resolve_left hrun)⟩
  cases hb : s.banks.pendingSwitch with
  | none => rfl
  | some i => simpa using htarget i hb

/-- The state in which the blocks react to a frame start: the frame begun and the credit refilled (R12, R13). -/
def begun (c : Cause) (s : State) : State := refillReaction (beginFrame c (bankDecision s).2 s)

theorem frameStart_eq (c : Cause) (s : State) :
    frameStart c s = frameReactions s.seq.firstPending (bankDecision s).1 (begun c s) := rfl

/-- With the frame begun all laws hold, before any block has reacted to it. -/
theorem begun_keeps_laws {s : State} (h : FrameReady s) (c : Cause) : Inv (begun c s) := by
  have hbanks : BanksReady (begun c s).settings.alternation (begun c s).banks := bankDecision_ready h.banks
  obtain ⟨hbank, hswitch⟩ :=
    hbanks.laws (s := begun c s) (by simp [begun, beginFrame]) (by simp [begun, beginFrame])
  obtain ⟨hdiv, -⟩ := h.time
  obtain ⟨htarget, hne, hreq, -, hheld, hpass⟩ := h.mode
  exact
    { time := ⟨hdiv, Nat.le_refl _⟩
      sequencer := by
        obtain ⟨hgap, hguard⟩ := h.counts
        have hpos := hbanks.phaseCount_pos
        have hticks : (begun c s).seq.ticksLeft ≤ 65535 := Nat.le_of_lt_succ (BitVec.isLt _)
        refine ⟨fun hs => ?_, fun _ => ⟨rfl, ?_⟩, fun hs => ?_, hticks, hgap, hguard⟩
        · cases hs
        · exact decide_eq_true hpos
        · cases hs
      bank := hbank
      switch := hswitch
      credit := fun p => by
        have hcredit : (begun c s).credit[p] = s.credit[p].refill (bankDecision s).2.inForce.parts[p] := by
          simp [begun, refillReaction, beginFrame]
        obtain ⟨hg, hlo, hhi, hc, hsum⟩ := refill_fits s.credit[p] (bankDecision s).2.inForce.parts[p]
        rw [hcredit]
        refine ⟨hg, hlo, hhi, hc, hsum, fun hs => ?_⟩
        cases hs
      mode := ⟨htarget, hne, hreq, nofun, hheld, hpass⟩
      hold := h.hold
      tags := h.tags
      returns := h.returns
      slot := h.slot
      incidents := h.incidents
      link := h.link
      reset := ⟨fun hr => absurd (h.awake.symm.trans hr) (by simp), fun hm => by
        have hnone : (begun c s).memPresented = none := h.noResponse
        rw [hnone] at hm
        cases hm⟩ }

/-- What each of three reactions keeps, all of them keep in any order. -/
theorem inOrder_keeps {P : State → Prop} {bank mode hold : State → State} (hb : ∀ s, P s → P (bank s))
    (hm : ∀ s, P s → P (mode s)) (hh : ∀ s, P s → P (hold s)) (o : ReactionOrder) {s : State} (h : P s) :
    P (inOrder o bank mode hold s) := by
  cases o with
  | bankModeHold => exact hh _ (hm _ (hb _ h))
  | bankHoldMode => exact hm _ (hh _ (hb _ h))
  | modeBankHold => exact hh _ (hb _ (hm _ h))
  | modeHoldBank => exact hb _ (hh _ (hm _ h))
  | holdBankMode => exact hm _ (hb _ (hh _ h))
  | holdModeBank => exact hb _ (hm _ (hh _ h))

/-- A value of the model's own counter of free values changes no law (log 6). -/
theorem freeIndex_keeps_laws {s : State} (h : Inv s) (k : Nat) (hr : s.pins.rst = false) :
    Inv { s with freeIndex := k } := Rest.inv { rest_of_inv h hr with } h.mode

/-- The reactions to a frame start in a state in which the frame has begun (R13). -/
theorem frameReactions_keep_laws {s : State} (h : Inv s) (hr : s.pins.rst = false) (hrun : s.seq.state = .running)
    (first : Bool) (a : SwitchAttempt) : Inv (frameReactions first a s) := by
  obtain ⟨o, ho⟩ := frameReactions_inOrder first a s
  rw [ho]
  generalize (frameReactions first a s).freeIndex = k
  refine (inOrder_keeps (P := fun s => Inv s ∧ s.pins.rst = false ∧ s.seq.state = .running) ?_ ?_ ?_ o
    ⟨freeIndex_keeps_laws h k hr, hr, hrun⟩).1
  · rintro s ⟨h, hr, hrun⟩
    exact ⟨bankReaction_keeps_laws h hr hrun _ _, by simpa using hr, by simpa using hrun⟩
  · rintro s ⟨h, hr, hrun⟩
    exact ⟨modeReaction_keeps_laws h hr (by simp [hrun]), by simpa using hr, by simpa using hrun⟩
  · rintro s ⟨h, hr, hrun⟩
    exact ⟨holdReaction_keeps_laws h hr, by simpa using hr, by simpa using hrun⟩

/-- A frame start keeps the laws (R12, R13). -/
theorem frameStart_keeps_laws {s : State} (h : FrameReady s) (c : Cause) : Inv (frameStart c s) :=
  frameReactions_keep_laws (begun_keeps_laws h c) h.awake rfl _ _

/-- Entry to GAP keeps the laws (R10), and brings them where the sequencer starts in FOLLOW (R5). -/
theorem enterGap_keeps_laws {s : State} (h : FrameReady s) (hcredit : CreditLaw s)
    (hfollow : s.settings.syncMode = .follow)
    (hfirst : s.seq.firstPending = true → s.banks.framesInBank = 0) : Inv (enterGap s) := by
  obtain ⟨hbank, hswitch⟩ := BanksReady.laws (s := enterGap s) h.banks (by simp [enterGap]) hfirst
  obtain ⟨htarget, hne, hreq, -, hheld, hpass⟩ := h.mode
  exact
    { time := h.time
      sequencer := ⟨nofun, nofun, fun _ => ⟨rfl, rfl, hfollow⟩, by simp [enterGap], by simp [enterGap],
        Nat.le_of_lt_succ (BitVec.isLt s.settings.syncGuard)⟩
      bank := hbank
      switch := hswitch
      credit := fun p => by
        obtain ⟨hg, hlo, hhi, hc, hsum, -⟩ := hcredit p
        exact ⟨hg, hlo, hhi, hc, hsum, nofun⟩
      mode := ⟨htarget, hne, hreq, nofun, hheld, hpass⟩
      hold := h.hold
      tags := h.tags
      returns := h.returns
      slot := h.slot
      incidents := h.incidents
      link := h.link
      reset := ⟨fun hr => absurd (h.awake.symm.trans hr) (by simp), fun hm => by
        have hnone : (enterGap s).memPresented = none := h.noResponse
        rw [hnone] at hm
        cases hm⟩ }

/-! ## The expiries of a tick (R7 to R11, R124) -/

theorem phaseDue_iff (s : State) : phaseDue s = true ↔ s.seq.state = .running ∧ s.seq.ticksLeft = 0 := by
  simp [phaseDue]

theorem guardDue_iff (s : State) :
    guardDue s = true ↔
      s.seq.state = .gap ∧ 1 ≤ s.seq.guardInForce ∧ s.seq.guardInForce ≤ s.seq.gapElapsed := by
  simp [guardDue, Nat.one_le_iff_ne_zero, and_assoc]

/-- The next phase of the frame begins (R8). -/
theorem nextPhase_keeps_laws {s : State} (h : Inv s) (hr : s.pins.rst = false) (hrun : s.seq.state = .running)
    (n : Phase) (hn : n.val < s.banks.inForce.phaseCount.val) :
    Inv { s with seq := { s.seq with phase := some n, ticksLeft := s.banks.inForce.ticks n } } := by
  obtain ⟨-, hrunning, -, -, hgap, hguard⟩ := h.sequencer
  refine Rest.inv { rest_of_inv h hr with sequencer := ⟨?_, fun _ => ⟨(hrunning hrun).1, by simpa using hn⟩, ?_,
    Nat.le_of_lt_succ (BitVec.isLt _), hgap, hguard⟩ } h.mode
  · intro hs
    rw [hrun] at hs
    cases hs
  · intro hs
    rw [hrun] at hs
    cases hs

/-- A current phase is known while the sequencer runs (R3). -/
theorem running_phase {s : State} (h : SequencerLaw s) (hrun : s.seq.state = .running) :
    s.seq.firstPending = false ∧ ∃ p, s.seq.phase = some p ∧ p.val < s.banks.inForce.phaseCount.val := by
  obtain ⟨-, hrunning, -⟩ := h
  obtain ⟨hfirst, hphase⟩ := hrunning hrun
  cases hp : s.seq.phase with
  | none => simp [hp] at hphase
  | some p => exact ⟨hfirst, p, rfl, by simpa [hp] using hphase⟩

/-- What the expiry of a phase does: the next phase, a frame start, or entry to GAP (R8, R9). -/
theorem expirePhase_cases {s : State} {p : Phase} (hp : s.seq.phase = some p) :
    (∃ n : Phase, n.val = p.val + 1 ∧ n.val < s.banks.inForce.phaseCount.val ∧ expirePhase s =
      { s with seq := { s.seq with phase := some n, ticksLeft := s.banks.inForce.ticks n } }) ∨
    (s.banks.inForce.phaseCount.val ≤ p.val + 1 ∧
      ((s.settings.syncMode = .free ∧ expirePhase s = frameStart .timed s) ∨
       (s.settings.syncMode = .follow ∧ expirePhase s = enterGap s))) := by
  unfold expirePhase
  rw [hp]
  dsimp only
  split
  case isTrue hlt => exact .inl ⟨⟨p.val + 1, by omega⟩, rfl, hlt, rfl⟩
  case isFalse hge =>
    refine .inr ⟨by omega, ?_⟩
    split
    · exact .inl ⟨by assumption, rfl⟩
    · exact .inr ⟨by assumption, rfl⟩

theorem expirePhase_keeps_laws {s : State} (h : Inv s) (hr : s.pins.rst = false) (hrun : s.seq.state = .running) :
    Inv (expirePhase s) := by
  have hready := frameReady_of_inv h hr (by simp [hrun])
  obtain ⟨hfirst, p, hp, -⟩ := running_phase h.sequencer hrun
  obtain ⟨n, -, hn, he⟩ | ⟨-, ⟨-, he⟩ | ⟨hfollow, he⟩⟩ := expirePhase_cases hp
  · rw [he]
    exact nextPhase_keeps_laws h hr hrun n hn
  · rw [he]
    exact frameStart_keeps_laws hready .timed
  · rw [he]
    exact enterGap_keeps_laws hready h.credit hfollow (by simp [hfirst])

/-- A recorded incident keeps the laws (R141 to R143). -/
theorem record_keeps_laws {s : State} (h : Inv s) (hr : s.pins.rst = false) (i : Incident) : Inv (record i s) :=
  (record_keeps_rest (rest_of_inv h hr) i).inv h.mode

/-- A frame start after an incident of its own: a guard expiry or a cut (R11, R16). -/
theorem recordedStart_keeps_laws {s : State} (h : Inv s) (hr : s.pins.rst = false) (hrun : s.seq.state ≠ .stopped)
    (c : Cause) (i : Incident) : Inv (frameStart c (record i s)) :=
  frameStart_keeps_laws (frameReady_of_inv (record_keeps_laws h hr i) hr hrun) c

theorem seqReaction_keeps_laws {s : State} (h : Inv s) (hr : s.pins.rst = false) : Inv (seqReaction s) := by
  unfold seqReaction
  split
  case isTrue hd => exact expirePhase_keeps_laws h hr ((phaseDue_iff s).mp hd).1
  case isFalse =>
    split
    case isTrue hd =>
      have hgap := ((guardDue_iff s).mp hd).1
      exact recordedStart_keeps_laws h hr (by simp [hgap]) _ _
    case isFalse => exact h

/-- A deadline expiry (R124): the room its response takes is that of the transaction it ends. -/
theorem expireEntry_keeps_laws {s : State} (h : Inv s) (hr : s.pins.rst = false) (i : OttIndex) :
    Inv (expireEntry s i) := by
  unfold expireEntry
  split
  case h_1 t hi =>
    have hlive := liveCount_of_cons (liveKeys_close (s := s) (i := i) (x := .expired t) (by rw [hi]; rfl) rfl)
    have hret := h.returns
    refine Rest.inv (count_keeps_rest (record_keeps_rest
      (respond_keeps_rest (quarantine_keeps_rest (rest_of_inv h hr) hi) _ ?_) _) _ _) h.mode
    dsimp only
    omega
  all_goals exact h

theorem ottReaction_keeps_laws {s : State} (h : Inv s) (hr : s.pins.rst = false) : Inv (ottReaction s) :=
  (foldl_keeps (P := fun s => Inv s ∧ s.pins.rst = false) (f := expireEntry)
    (fun s i ⟨h, hr⟩ => ⟨expireEntry_keeps_laws h hr i, by rw [expireEntry_pins]; exact hr⟩) (List.finRange 32)
    ⟨h, hr⟩).1

/-- Handling the expiries that a tick has brought keeps the laws (R3, R7, R123). -/
theorem settle_keeps_laws {s : State} (h : Inv s) (hr : s.pins.rst = false) : Inv (settle s) := by
  have hk := freeIndex_keeps_laws h (s.freeIndex + 1) hr
  unfold settle
  split
  · exact h
  · split
    · split
      · exact seqReaction_keeps_laws (ottReaction_keeps_laws hk hr) (by rw [ottReaction_pins]; exact hr)
      · exact ottReaction_keeps_laws (seqReaction_keeps_laws hk hr) (by rw [seqReaction_pins]; exact hr)
    · exact ottReaction_keeps_laws (seqReaction_keeps_laws h hr) (by rw [seqReaction_pins]; exact hr)

/-! ## Ticks and REFCLK periods (R1, R14) -/

theorem openKey_countTick (x : OttEntry) : openKey x.countTick = openKey x := by cases x <;> rfl

/-- What a tick counts at the Frame Sequencer: down in a phase, up in GAP (R7, R11). -/
theorem seqCountTick_cases (q : Sequencer) :
    ∃ ticks gap, q.countTick = { q with ticksLeft := ticks, gapElapsed := gap } ∧ ticks ≤ q.ticksLeft ∧
      (gap = q.gapElapsed ∨ (q.state = .gap ∧ gap ≤ 65535)) := by
  unfold Sequencer.countTick
  split
  case h_1 => exact ⟨q.ticksLeft, q.gapElapsed, rfl, Nat.le_refl _, .inl rfl⟩
  case h_2 => exact ⟨q.ticksLeft - 1, q.gapElapsed, rfl, Nat.sub_le .., .inl rfl⟩
  case h_3 h => exact ⟨q.ticksLeft, _, rfl, Nat.le_refl _, .inr ⟨h, Nat.min_le_right ..⟩⟩

/-- A tick lowers the count of an OPEN entry and leaves the rest of it (R123). -/
theorem entryFits_countTick {o : Option Offer} {drst : Bool} {i : OttIndex} {x : OttEntry} (h : EntryFits o drst i x) :
    EntryFits o drst i x.countTick := by
  cases x with
  | free => trivial
  | expired t => exact h
  | opened t n =>
    obtain ⟨hslot, hn, hd⟩ := h
    exact ⟨hslot, by omega, hd⟩

/-- A tick counted keeps the laws (R1, R7, R11, R123). -/
theorem countTick_keeps_laws {s : State} (h : Inv s) (hr : s.pins.rst = false) : Inv (countTick s) := by
  obtain ⟨ticks, gap, hseq, hticks, hgap⟩ := seqCountTick_cases s.seq
  have htick : countTick s = { s with
      divider := 0, seq := { s.seq with ticksLeft := ticks, gapElapsed := gap }
      ott := mapAll OttEntry.countTick s.ott } := by
    simp [countTick, hr, hseq]
  obtain ⟨-, hpulse⟩ := h.time
  obtain ⟨hstop, hrun, hingap, hlow, hup, hguard⟩ := h.sequencer
  have hslot : SlotLaw (countTick s) :=
    slotLaw_mapAll h.slot (by rw [htick]) (by rw [htick]) (by rw [htick]) fun _ _ => entryFits_countTick
  have hkeys : liveKeys (countTick s) = liveKeys s :=
    liveKeys_mapAll openKey_countTick (by rw [htick]) (by rw [htick])
  obtain ⟨htags, hreturns⟩ := sameLive_laws hkeys (Nat.le_of_eq (by rw [htick])) h.tags h.returns
  rw [htick] at hslot htags hreturns ⊢
  refine Rest.inv { rest_of_inv h hr with
    time := ⟨Nat.mul_pos (Nat.succ_pos _) (by decide), hpulse⟩
    sequencer := ⟨fun hs => ?_, hrun, fun hs => ?_, by dsimp only; omega, by dsimp only; omega, hguard⟩
    tags := htags, returns := hreturns
    slot := hslot } h.mode
  · obtain ⟨hphase, hzero, hgap0, hguard0, hfirst⟩ := hstop hs
    have hs : s.seq.state = .stopped := hs
    refine ⟨hphase, by dsimp only; omega, ?_, hguard0, hfirst⟩
    simpa [hgap0, hs] using hgap
  · obtain ⟨hphase, hzero, hfollow⟩ := hingap hs
    exact ⟨hphase, by dsimp only; omega, hfollow⟩

/-- A REFCLK period keeps the laws: the divider counts within the tick period and the pulse runs down (R1, R14). -/
theorem refclk_keeps_laws {s : State} (h : Inv s) (hr : s.pins.rst = false) : Inv (refclk s) := by
  obtain ⟨hdiv, hpulse⟩ := h.time
  have hdown : Rest { s with frameOutLeft := s.frameOutLeft - 1 } :=
    { rest_of_inv h hr with time := ⟨hdiv, by dsimp only; omega⟩ }
  unfold refclk
  rw [if_neg (by simp [hr])]
  dsimp only
  split
  case isTrue => exact countTick_keeps_laws (hdown.inv h.mode) hr
  case isFalse hlt =>
    exact Rest.inv { hdown with time := ⟨Nat.lt_of_not_le hlt, hdown.time.2⟩ } h.mode

/-! ## The requester side (R73 to R96, R110 to R114) -/

theorem present_keeps_laws {s : State} (h : Inv s) (hr : s.pins.rst = false) (q : Request) : Inv (present q s) := by
  unfold present
  split
  · exact Rest.inv { rest_of_inv h hr with } h.mode
  · exact h

theorem deliverHead_keeps_laws {s : State} (h : Inv s) (hr : s.pins.rst = false) : Inv (deliverHead s) := by
  have hret := h.returns
  refine Rest.inv { rest_of_inv h hr with returns := ?_ } h.mode
  have hlive : liveCount (deliverHead s) = liveCount s := rfl
  simp only [ReturnLaw, deliverHead, List.length_tail] at hret hlive ⊢
  omega

/-- The conditions of a taking (R75). -/
theorem canTake_iff (s : State) : canTake s = true ↔
    s.pins.rst = false ∧ s.returnQueue.length + liveCount s < Config.returnBound ∧ s.mode.inForce ≠ .draining ∧
    (s.mode.inForce.passes = true → slotReady s = true) := by
  cases hp : s.mode.inForce.passes <;> simp [canTake, hp, and_assoc]

theorem slotReady_iff (s : State) :
    slotReady s = true ↔ s.offer = none ∧ (∃ i, lowestFree s = some i) ∧ s.pins.drst = false := by
  simp [slotReady, Option.isSome_iff_exists, and_assoc]

/-- A refusal answers its request where there is room (R77, R92). -/
theorem refuseTaken_keeps_rest {s : State} (h : Rest s) (k : IncidentKind) (p : Option Partition) (d : Half) (q : Taken)
    (room : s.returnQueue.length + liveCount s < Config.returnBound) : Rest (refuseTaken k p d q s) :=
  count_keeps_rest (record_keeps_rest (respond_keeps_rest h _ room) _) _ _

/-- An opening at the lowest FREE index (R121). -/
theorem openEntry_keeps_rest {s : State} (h : Rest s) {q : Taken} (p : Option Partition) (hq : TakenFits q)
    (hslot : slotReady s = true) (hnew : (q.requester, q.tag) ∉ liveKeys s)
    (room : s.returnQueue.length + liveCount s < Config.returnBound) : Rest (openEntry q p s) := by
  obtain ⟨hoffer, ⟨i, hi⟩, hdrst⟩ := (slotReady_iff s).mp hslot
  rw [openEntry_at q p hi]
  exact openAt_keeps_rest h p (lowestFree_eq_some.mp hi).1 hoffer hdrst hq hnew room

/-- A judgement in OBSERVE records an incident or nothing (R81). -/
theorem judgeWindow_cases (p : Partition) (q : Taken) (s : State) :
    judgeWindow p q s = s ∨ ∃ i, judgeWindow p q s = record i s := by
  unfold judgeWindow
  split
  · exact .inl rfl
  · exact .inr ⟨_, rfl⟩

theorem judgeBudget_cases (p : Partition) (q : Taken) (s : State) :
    judgeBudget p q s = s ∨ ∃ i, judgeBudget p q s = record i s := by
  unfold judgeBudget
  split
  · exact .inr ⟨_, rfl⟩
  · exact .inl rfl

/-- What the judgements of a pass in OBSERVE leave: all but the incidents (R81). -/
theorem judged_cases (p : Partition) (q : Taken) (s : State) :
    ∃ u, judgeBudget p q (judgeWindow p q s) = { s with incidents := u } ∧
      (Rest s → Rest { s with incidents := u }) := by
  obtain hw | ⟨i, hw⟩ := judgeWindow_cases p q s <;>
    obtain hb | ⟨j, hb⟩ := judgeBudget_cases p q (judgeWindow p q s) <;> rw [hb, hw]
  · exact ⟨s.incidents, rfl, id⟩
  · exact ⟨_, rfl, fun h => record_keeps_rest h j⟩
  · exact ⟨_, rfl, fun h => record_keeps_rest h i⟩
  · exact ⟨_, rfl, fun h => record_keeps_rest (record_keeps_rest h i) j⟩

/-- A pass on the direct path in OBSERVE (R80, R81). -/
theorem passObserved_keeps_rest {s : State} (h : Rest s) {q : Taken} (hrun : s.seq.state ≠ .stopped)
    (hq : TakenFits q) (hslot : slotReady s = true) (hnew : (q.requester, q.tag) ∉ liveKeys s)
    (room : s.returnQueue.length + liveCount s < Config.returnBound) : Rest (passObserved q s) := by
  unfold passObserved
  split
  case h_1 => exact openEntry_keeps_rest (record_keeps_rest h _) _ hq hslot hnew room
  case h_2 p _ =>
    obtain ⟨u, hu, hrest⟩ := judged_cases p q s
    rw [hu]
    exact openEntry_keeps_rest (charge_keeps_rest (hrest h) hrun p q.length) _ hq hslot hnew room

/-- Mode Control's law rests on the mode, the sequencer state and the hold queues alone. -/
theorem modeLaw_of_eq {s t : State} (h : ModeLaw s) (hm : t.mode = s.mode) (hs : t.seq.state = s.seq.state)
    (hh : t.hold = s.hold) : ModeLaw t := by
  have he : storeEmpty t = storeEmpty s := by rw [storeEmpty, storeEmpty, hh]
  simp only [ModeLaw, hm, hs, he] at h ⊢
  exact h

/-- A pass in OBSERVE leaves mode, sequencer and hold queues. -/
theorem passObserved_frame (q : Taken) (s : State) :
    (passObserved q s).mode = s.mode ∧ (passObserved q s).seq = s.seq ∧ (passObserved q s).hold = s.hold := by
  unfold passObserved
  split
  case h_1 => simp
  case h_2 p _ =>
    obtain ⟨u, hu, -⟩ := judged_cases p q s
    simp [hu]

/-- In ENFORCE a request is refused, or admitted within the limits of its queue and the Hold Store (R92 to R96). -/
theorem admission_keeps_laws {s : State} (h : Inv s) (hr : s.pins.rst = false) {q : Taken}
    (hmode : s.mode.inForce = .enforce) (hq : TakenFits q) (hnew : (q.requester, q.tag) ∉ liveKeys s)
    (room : s.returnQueue.length + liveCount s < Config.returnBound) : Inv (admission q s) := by
  have hrest := rest_of_inv h hr
  have hrefuse : ∀ k p d, Inv (refuseTaken k p d q s) := fun k p d =>
    (refuseTaken_keeps_rest hrest k p d q room).inv (modeLaw_of_eq h.mode rfl rfl rfl)
  unfold admission
  split
  case h_1 => exact hrefuse ..
  case h_2 p _ =>
    split
    case isTrue => exact hrefuse ..
    case isFalse hlimit =>
      split
      case isTrue => exact hrefuse ..
      case isFalse hfull =>
        have hlim := s.banks.inForce.parts[p].queueLimit.isLt
        obtain ⟨hstore, -⟩ := h.hold
        obtain ⟨htarget, hne, hreq, hstop, -, -⟩ := h.mode
        refine (enqueue_keeps_rest hrest hq hnew (by omega) (by omega) room).inv
          ⟨htarget, hne, hreq, hstop, fun hd => ?_, fun hp => ?_⟩
        · exact absurd (hmode.symm.trans hd) (by simp)
        · have hp : s.mode.inForce.passes = true := hp
          simp [hmode, Mode.passes] at hp

/-- A taken request is handled within its taking (R76): refused for its tag, passed, or judged by Admission. -/
theorem handleTaken_keeps_laws {s : State} (h : Inv s) {q : Taken} (hq : TakenFits q) (htake : canTake s = true) :
    Inv (handleTaken q s) := by
  obtain ⟨hr, room, -, hslot⟩ := (canTake_iff s).mp htake
  have hrest := rest_of_inv h hr
  unfold handleTaken
  split
  case isTrue =>
    exact (refuseTaken_keeps_rest hrest _ _ _ _ room).inv (modeLaw_of_eq h.mode rfl rfl rfl)
  case isFalse hlive =>
    have hnew : (q.requester, q.tag) ∉ liveKeys s := fun hk => hlive ((liveTag_iff s q.requester q.tag).mpr hk)
    split
    case h_1 hm =>
      exact (openEntry_keeps_rest hrest none hq (hslot (by rw [hm]; rfl)) hnew room).inv
        (modeLaw_of_eq h.mode (by simp) (by simp) (by simp))
    case h_2 hm =>
      have hrun : s.seq.state ≠ .stopped := by
        obtain ⟨-, -, -, hstop, -⟩ := h.mode
        intro hs
        simp [(hstop hs).1] at hm
      obtain ⟨hmode, hseq, hhold⟩ := passObserved_frame q s
      exact (passObserved_keeps_rest hrest hrun hq (hslot (by rw [hm]; rfl)) hnew room).inv
        (modeLaw_of_eq h.mode hmode (by rw [hseq]) hhold)
    case h_3 hm => exact admission_keeps_laws h hr hm hq hnew room
    case h_4 => exact h

theorem takePresented_keeps_laws {s : State} (h : Inv s) (hr : s.pins.rst = false) : Inv (takePresented s) := by
  unfold takePresented
  split
  case h_1 => exact h
  case h_2 q _ =>
    split
    case isTrue htake =>
      have hempty : Inv { s with presented := none } := Rest.inv { rest_of_inv h hr with } h.mode
      exact handleTaken_keeps_laws hempty (takenOf_fits q) htake
    case isFalse => exact h

/-- A release moves a head entry from its queue into the Offer Slot, charged (R114): it stays live. -/
theorem releaseFrom_keeps_laws {s : State} (h : Inv s) (hr : s.pins.rst = false) (hslot : slotReady s = true)
    (p : Partition) : Inv (releaseFrom p s) := by
  unfold releaseFrom
  split
  case h_1 => exact h
  case h_2 e rest hp =>
    obtain ⟨hnp, hrun⟩ := held_excludes_passing h.mode hp
    have hkeys := liveKeys_popHead hp
    have hlive := liveCount_of_cons hkeys
    have hret := h.returns
    have hfits : TakenFits e.request := ((h.hold.2 p).2 e (by simp [hp])).2
    have hnew : heldKey e ∉ liveKeys (popHead p s) := (List.nodup_cons.mp (hkeys.nodup_iff.mp h.tags)).1
    have hpop : Rest (popHead p { s with pointer := p }) := { popHead_keeps_rest (rest_of_inv h hr) hp with }
    have hopen := openEntry_keeps_rest (charge_keeps_rest hpop hrun e.partition e.request.length) (some e.partition)
      hfits hslot hnew (by
        have hlive' : liveCount (charge e.partition e.request.length (popHead p { s with pointer := p })) =
          liveCount (popHead p s) := rfl
        simp only [charge_returnQueue, popHead_returnQueue, hlive']
        omega)
    refine completeDrain_keeps_laws hopen ?_
    obtain ⟨⟨htarget, hne, hreq, hstop, -⟩, -⟩ := (modeLaw_iff s).mp h.mode
    simp only [DrainLaw, openEntry_mode, openEntry_seq, charge_mode, charge_seq, popHead_mode, popHead_seq]
    exact ⟨htarget, hne, hreq, hstop, fun hpass => absurd hpass (by simp [hnp])⟩

theorem releaseHead_keeps_laws {s : State} (h : Inv s) (hr : s.pins.rst = false) : Inv (releaseHead s) := by
  unfold releaseHead
  split
  case isTrue hcan =>
    have hslot : slotReady s = true := by
      simp only [canRelease, Bool.and_eq_true] at hcan
      obtain ⟨⟨-, hslot⟩, -⟩ := hcan
      exact hslot
    split
    · exact releaseFrom_keeps_laws h hr hslot _
    · exact h
  case isFalse => exact h

/-! ## The memory side (R108, R116, R117, R125 to R132) -/

theorem openKey_leaveSlot (x : OttEntry) : openKey x.leaveSlot = openKey x := by cases x <;> rfl

/-- An entry that fits the offered request fits the empty slot once it is marked as out of it (R108). -/
theorem entryFits_leaveSlot {o : Option Offer} {drst : Bool} {i : OttIndex} {x : OttEntry}
    (h : EntryFits o drst i x) : EntryFits none drst i x.leaveSlot := by
  have hslot : ∀ t : Transaction, SlotFits none i { t with inSlot := false } := by simp [SlotFits]
  cases x with
  | free => trivial
  | opened t n =>
    obtain ⟨-, hn, hd⟩ := h
    exact ⟨hslot t, hn, hd⟩
  | expired t => exact ⟨hslot t, h.2⟩

/-- An entry other than the one offered fits the empty slot as it is (R74). -/
theorem entryFits_of_other {f : Offer} {drst : Bool} {i : OttIndex} {x : OttEntry} (h : EntryFits (some f) drst i x)
    (hi : f.mtag ≠ i) : EntryFits none drst i x := by
  have hslot : ∀ t, SlotFits (some f) i t → SlotFits none i t := by
    rintro t ⟨hin, -⟩
    simpa [SlotFits, hi] using hin
  cases x with
  | free => trivial
  | opened t n => exact ⟨hslot t h.1, h.2⟩
  | expired t => exact ⟨hslot t h.1, h.2⟩

theorem accept_keeps_laws {s : State} (h : Inv s) (hr : s.pins.rst = false) : Inv (accept s) := by
  unfold accept
  split
  case h_1 => exact h
  case h_2 f hf =>
    obtain ⟨hentries, -⟩ := (slotLaw_iff s).mp h.slot
    have hkeys : liveKeys { s with offer := none, ott := setAt s.ott f.mtag (s.ott[f.mtag]).leaveSlot } = liveKeys s :=
      liveKeys_same (openKey_leaveSlot _)
    obtain ⟨htags, hreturns⟩ := sameLive_laws hkeys (Nat.le_refl _) h.tags h.returns
    refine Rest.inv { rest_of_inv h hr with
      tags := htags, returns := hreturns, slot := (slotLaw_iff _).mpr ⟨fun i => ?_, by simp [OfferFits]⟩ } h.mode
    have hget : (setAt s.ott f.mtag (s.ott[f.mtag]).leaveSlot)[i] = _ := setAt_get ..
    dsimp only
    rw [hget]
    split
    case isTrue hi => exact hi ▸ entryFits_leaveSlot (hentries f.mtag)
    case isFalse hi => exact entryFits_of_other (hf ▸ hentries i) hi

/-- A response forwarded frees its entry, and the room its answer takes is that of the transaction (R126). -/
theorem forward_keeps_laws {s : State} (h : Inv s) (hr : s.pins.rst = false) {t : Transaction} {n : Nat} {r : Response}
    (hi : s.ott[r.mtag] = .opened t n) : Inv (forward t r s) := by
  have hlive := liveCount_of_cons (liveKeys_close (s := s) (i := r.mtag) (x := .free) (by rw [hi]; rfl) rfl)
  have hret := h.returns
  have hanswer := respond_keeps_rest (freeEntry_keeps_rest (rest_of_inv h hr) r.mtag)
    { requester := t.requester, tag := t.tag, status := (forwardStatus t r).1, data := forwardData t r }
    (by dsimp only; omega)
  unfold forward
  dsimp only
  split
  · exact (record_keeps_rest hanswer _).inv h.mode
  · exact hanswer.inv h.mode

/-- A response taken at the Memory Port is ignored, stray, late or forwarded (R125). -/
theorem takeResponse_keeps_laws {s : State} (h : Inv s) (hr : s.pins.rst = false) (r : Response) :
    Inv (takeResponse r s) := by
  unfold takeResponse
  split
  case isTrue => exact h
  case isFalse =>
    split
    case isTrue => exact record_keeps_laws h hr _
    case isFalse =>
      split
      case h_1 => exact record_keeps_laws h hr _
      case h_2 => exact (record_keeps_rest (freeEntry_keeps_rest (rest_of_inv h hr) r.mtag) _).inv h.mode
      case h_3 t n hi => exact forward_keeps_laws h hr hi

theorem arriveResponse_keeps_laws {s : State} (h : Inv s) (hr : s.pins.rst = false) (r : Response) :
    Inv (arriveResponse r s) := by
  unfold arriveResponse
  rw [if_neg (by simp [hr])]
  exact takeResponse_keeps_laws h hr r

/-- Each OPEN entry is answered once under the memory-side reset (R132). -/
theorem aborts_length (s : State) : (s.ott.toList.filterMap OttEntry.abort).length = openCount s := by
  unfold openCount
  induction s.ott.toList with
  | nil => rfl
  | cons x l ih => cases x <;> simp [OttEntry.isOpen, OttEntry.abort, List.countP_cons, List.filterMap_cons, ih]

/-- An OTT with every entry FREE has no live transaction. -/
theorem liveKeys_allFree {s t : State} (hhold : t.hold = s.hold) (hott : t.ott = Vector.replicate 32 .free) :
    liveKeys t = s.hold.toList.flatten.map heldKey := by
  have hnone : (List.replicate 32 OttEntry.free).filterMap openKey = [] :=
    List.filterMap_eq_nil_iff.mpr fun x hx => by rw [List.eq_of_mem_replicate hx]; rfl
  rw [liveKeys_eq, hhold, hott, Vector.toList_replicate, hnone, List.append_nil]

/-- The memory side under the reset notice, before DOWNSTREAM_RESET is recorded (R116, R132). -/
def memorySideCleared (s : State) : State :=
  { s with
    pins := { s.pins with drst := true }, offer := none
    returnQueue := s.returnQueue ++ s.ott.toList.filterMap OttEntry.abort, ott := Vector.replicate 32 .free }

/-- The reset notice clears the memory side and records that it did (R132). -/
theorem drstAssert_eq {s : State} (hr : s.pins.rst = false) (hd : s.pins.drst = false) :
    drstAssert s = record (Incident.plain .downstreamReset (BitVec.ofNat 16 (openCount s))) (memorySideCleared s) := by
  unfold drstAssert
  rw [if_neg (by simp [hd])]
  dsimp only
  rw [if_neg (by simp [hr])]
  rfl

/-- The answers under the reset notice take the room of the transactions they end (R132). -/
theorem memorySideCleared_keeps_rest {s : State} (h : Rest s) : Rest (memorySideCleared s) := by
  have hkeys : liveKeys (memorySideCleared s) = s.hold.toList.flatten.map heldKey := liveKeys_allFree rfl rfl
  refine { h with tags := ?_, returns := ?_
                  slot := (slotLaw_iff _).mpr ⟨fun i => ?_, by simp [memorySideCleared, OfferFits]⟩ }
  · have htags := h.tags
    rw [TagLaw, liveKeys_eq] at htags
    rw [TagLaw, hkeys]
    exact (List.nodup_append.mp htags).1
  · have hlive : liveCount (memorySideCleared s) = storeCount s := by
      rw [liveCount_eq, hkeys, List.length_map, storeCount_eq]
    have hret := h.returns
    have haborts := aborts_length s
    have hqueue : (memorySideCleared s).returnQueue.length =
      s.returnQueue.length + (s.ott.toList.filterMap OttEntry.abort).length := List.length_append
    simp only [ReturnLaw, liveCount] at hret hlive ⊢
    omega
  · have hfree : (memorySideCleared s).ott[i] = .free := by simp [memorySideCleared]
    rw [hfree]
    trivial

theorem drstAssert_keeps_laws {s : State} (h : Inv s) (hr : s.pins.rst = false) : Inv (drstAssert s) := by
  cases hd : s.pins.drst with
  | true => simpa [drstAssert, hd] using h
  | false =>
    rw [drstAssert_eq hr hd]
    exact (record_keeps_rest (memorySideCleared_keeps_rest (rest_of_inv h hr)) _).inv h.mode

theorem drstDeassert_keeps_laws {s : State} (h : Inv s) (hr : s.pins.rst = false) : Inv (drstDeassert s) := by
  obtain ⟨hentries, hoffer, -⟩ := (slotLaw_iff s).mp h.slot
  have hslot : SlotLaw (drstDeassert s) := by
    refine (slotLaw_iff _).mpr ⟨fun i => ?_, hoffer, nofun⟩
    have hfit := hentries i
    change EntryFits s.offer false i s.ott[i]
    cases hx : s.ott[i] with
    | free => trivial
    | opened t n =>
      rw [hx] at hfit
      obtain ⟨hslot, hticks, -⟩ := hfit
      exact ⟨hslot, hticks, rfl⟩
    | expired t =>
      rw [hx] at hfit
      exact ⟨hfit.1, rfl⟩
  exact Rest.inv { rest_of_inv h hr with slot := hslot } h.mode

/-! ## Sequencer events (R14 to R17) -/

theorem endPulse_keeps_laws {s : State} (h : Inv s) (hr : s.pins.rst = false) : Inv (endPulse s) :=
  Rest.inv { rest_of_inv h hr with time := ⟨h.time.1, Nat.zero_le _⟩ } h.mode

theorem syncArrival_keeps_laws {s : State} (h : Inv s) (hr : s.pins.rst = false) : Inv (syncArrival s) := by
  unfold syncArrival
  split
  case h_1 => exact h
  case h_2 =>
    split
    case h_1 => exact h
    case h_2 hrun => exact recordedStart_keeps_laws h hr (by simp [hrun]) _ _
    case h_3 hgap => exact frameStart_keeps_laws (frameReady_of_inv h hr (by simp [hgap])) _

end Sys2Proof.Invariant
end

section
/-! PROOFS. The commands of the Configuration Link (Chapter 10): what any of them can do to the part. -/

namespace Sys2Proof.Commands

open Sys2Proof.Machine Sys2Proof.Safety Sys2Proof.Claims

/-- What a command of the link can do, with the status it replies: nothing under any status, or one change of state
under OK, ACCEPTED or QUEUE_EMPTY, with the conditions under which it is made (R155). -/
inductive Effect (s : State) : State → ReplyStatus → Prop
  | nothing (st : ReplyStatus) : Effect s s st
  | bankWritten (b : BankId) (c : Schedule) (h : (s.banks.get b).state ≠ .active) :
      Effect s { s with banks := s.banks.set b { contents := c, state := .editing } } .ok
  | bankClosed (b : BankId) (h : (s.banks.get b).state = .editing)
      (hpass : closeChecks (s.banks.get b).contents = none) :
      Effect s { s with banks := s.banks.setState b .ready } .ok
  | settingsStored (t : Settings) (h : settingsRefused t s = false) (hthr : 1 ≤ t.alertThreshold.val) :
      Effect s (storeSettings t s) .ok
  | started (b : BankId) (ha : s.settings.alternation = false) (hp : s.banks.pendingSwitch = none)
      (hs : s.seq.state = .stopped) (hb : (s.banks.get b).state = .ready) : Effect s (startOn b s) .ok
  | switchPending (b : BankId) (ha : s.settings.alternation = false) (hb : (s.banks.get b).state ≠ .active)
      (hs : s.seq.state ≠ .stopped) : Effect s { s with banks := { s.banks with pendingSwitch := some b } } .accepted
  | switchCancelled : Effect s { s with banks := { s.banks with pendingSwitch := none } } .ok
  | modeRequested (m : Mode) (hm : m ≠ .draining) (hs : s.seq.state ≠ .stopped) :
      Effect s { s with mode := { s.mode with requested := some m } } .accepted
  | stopped (hm : s.mode.inForce = .straight) (hr : s.mode.requested = none) : Effect s (stopSchedule s) .ok
  | lostTaken (hq : s.incidents.queue = []) :
      Effect s { s with incidents := { s.incidents with lost := 0 } } .queueEmpty
  | incidentTaken (r : IncidentRecord) (rest : List IncidentRecord) (hq : s.incidents.queue = r :: rest) :
      Effect s { s with incidents := { s.incidents with queue := rest, lost := 0 } } .ok
  | countersCleared : Effect s { s with stats := Vector.replicate 8 Stats.zero } .ok
  | quarantineFlushed : Effect s { s with ott := mapAll OttEntry.flush s.ott } .ok
  | regulatorReset : Effect s (regulatorReset s) .ok

/-- The effect of an execution that gives this state and reply. -/
def Does (s : State) (x : State × Reply) : Prop := Effect s x.1 x.2.status

theorem writeBank_does (b : BankId) (f : Schedule → Schedule) (s : State) : Does s (writeBank b f s) := by
  unfold writeBank
  split
  · exact .nothing _
  · exact .bankWritten b _ (by assumption)

/-- An alert threshold in range is at least 1 (R147, R158). -/
theorem settings?_threshold {p m : Byte} {g : Half} {d a k th e : Byte} {t : Settings}
    (h : settings? p m g d a k th e = some t) : 1 ≤ t.alertThreshold.val := by
  unfold settings? at h
  split at h
  case h_1 x hth _ =>
    obtain rfl := Option.some.inj h
    unfold threshold? at hth
    split at hth
    · cases hth
    · unfold fin? at hth
      split at hth
      · obtain rfl := Option.some.inj hth
        dsimp only
        bv_omega
      · cases hth
  case h_2 => cases h

theorem targetMode?_ne_draining {b : Byte} {m : Mode} (h : targetMode? b = some m) : m ≠ .draining := by
  unfold targetMode? at h
  rintro rfl
  split at h
  · cases h
  · split at h
    · cases h
    · split at h <;> cases h

theorem cmdCloseBank_does (bb : Byte) (s : State) : Does s (cmdCloseBank bb s) := by
  unfold cmdCloseBank
  split
  case h_1 => exact .nothing _
  case h_2 b _ =>
    split
    case h_1 => exact .nothing _
    case h_2 => exact .nothing _
    case h_3 hed =>
      split
      case h_1 => exact .nothing _
      case h_2 hpass => exact .bankClosed b hed hpass

theorem cmdRequestSwitch_does (bb : Byte) (s : State) : Does s (cmdRequestSwitch bb s) := by
  unfold cmdRequestSwitch
  split
  case h_1 => exact .nothing _
  case h_2 b _ =>
    split
    case isTrue => exact .nothing _
    case isFalse ha =>
      have ha : s.settings.alternation = false := by simpa using ha
      split
      case isTrue => exact .nothing _
      case isFalse hb =>
        split
        case isTrue => exact .nothing _
        case isFalse hp =>
          have hp : s.banks.pendingSwitch = none := by simpa using hp
          split
          case h_1 hs =>
            split
            case isTrue hready => exact .started b ha hp hs hready
            case isFalse => exact .nothing _
          case h_2 hs => exact .switchPending b ha hb (by simp [hs])
          case h_3 hs => exact .switchPending b ha hb (by simp [hs])

theorem cmdSetMode_does (mb : Byte) (s : State) : Does s (cmdSetMode mb s) := by
  unfold cmdSetMode
  split
  case h_1 => exact .nothing _
  case h_2 m hm =>
    have hmd := targetMode?_ne_draining hm
    split
    case h_1 => split <;> exact .nothing _
    case h_2 hs => exact .modeRequested m hmd (by simp [hs])
    case h_3 hs => exact .modeRequested m hmd (by simp [hs])

theorem cmdStopSchedule_does (s : State) : Does s (cmdStopSchedule s) := by
  unfold cmdStopSchedule
  split
  case isTrue h =>
    obtain ⟨hm, hr⟩ := h
    split
    · exact .nothing _
    · exact .stopped hm hr
    · exact .stopped hm hr
  case isFalse => exact .nothing _

theorem cmdTakeIncident_does (s : State) : Does s (cmdTakeIncident s) := by
  unfold cmdTakeIncident
  split
  case h_1 hq => exact .lostTaken hq
  case h_2 r rest hq => exact .incidentTaken r rest hq

theorem cmdWriteSettings_does (p m : Byte) (g : Half) (d a k th e : Byte) (s : State) :
    Does s (cmdWriteSettings p m g d a k th e s) := by
  unfold cmdWriteSettings
  split
  case h_1 => exact .nothing _
  case h_2 t ht =>
    split
    case isTrue => exact .nothing _
    case isFalse h => exact .settingsStored t (by simpa using h) (settings?_threshold ht)

theorem cmdCancelSwitch_does (s : State) : Does s (cmdCancelSwitch s) := by
  unfold cmdCancelSwitch
  split
  · exact .switchCancelled
  · exact .nothing _

/-- Every command of the link does one of these (R154 to R156). -/
theorem perform_does (c : LinkCommand) (s : State) : Does s (perform c s) := by
  cases c with
  | nop | readStatus | readSettings => exact .nothing _
  | readPhases | readPartition | readMap | readStatistics | readTransactions =>
    simp only [perform, cmdReadPhases, cmdReadPartition, cmdReadMap, cmdReadStatistics, cmdReadTransactions]
    split <;> exact .nothing _
  | writeSettings p m g d a k t e => exact cmdWriteSettings_does p m g d a k t e s
  | writePhases | writeMap | copyBank =>
    simp only [perform, cmdWritePhases, cmdWriteMap, cmdCopyBank]
    split
    · exact .nothing _
    · exact writeBank_does _ _ s
  | writePartition =>
    simp only [perform, cmdWritePartition]
    split
    · exact writeBank_does _ _ s
    · exact .nothing _
  | closeBank b => exact cmdCloseBank_does b s
  | requestSwitch b => exact cmdRequestSwitch_does b s
  | cancelSwitch => exact cmdCancelSwitch_does s
  | setMode m => exact cmdSetMode_does m s
  | stopSchedule => exact cmdStopSchedule_does s
  | takeIncident => exact cmdTakeIncident_does s
  | clearStatistics => exact .countersCleared
  | flushQuarantine => exact .quarantineFlushed
  | resetRegulator => exact .regulatorReset

/-- No command touches the inputs, what is presented at the ports, the link or the queue of commands. -/
theorem effect_frame {s t : State} {st : ReplyStatus} (h : Effect s t st) :
    t.pins = s.pins ∧ t.link = s.link ∧ t.presented = s.presented ∧ t.memPresented = s.memPresented ∧
      t.pending = s.pending := by
  cases h with
  | started b => simp [startOn]
  | _ => exact ⟨rfl, rfl, rfl, rfl, rfl⟩

end Sys2Proof.Commands
end

section
/-! PROOFS. Every step keeps the laws of the manual. -/

namespace Sys2Proof.Invariant

open Sys2Proof.Machine Sys2Proof.Safety Sys2Proof.Claims Sys2Proof.Path Sys2Proof.Commands

/-! ## The link commands (R21 to R40, R57 to R66, R131, R144, R158 to R160) -/

/-- Replacing a bank that is not ACTIVE by one that is not leaves the bank in force (R25). -/
theorem inForce_set {c : BankControl} {b : BankId} {x : Bank} (h : (c.get b).state ≠ .active)
    (hx : x.state ≠ .active) : (c.set b x).inForce = c.inForce := by
  have hact : (c.set b x).active = c.active := by
    cases b with
    | bank0 => exact (if_neg hx).trans (if_neg h).symm
    | bank1 =>
      exact congrArg (fun r => if c.bank0.state = .active then some BankId.bank0 else r)
        ((if_neg hx).trans (if_neg h).symm)
  unfold BankControl.inForce
  rw [hact]
  cases ha : c.active with
  | none => rfl
  | some i =>
    have hne : i ≠ b := by
      rintro rfl
      unfold BankControl.active at ha
      cases i <;> simp_all [BankControl.get]
    cases i with
    | bank0 =>
      cases b with
      | bank0 => exact absurd rfl hne
      | bank1 => rfl
    | bank1 =>
      cases b with
      | bank0 => rfl
      | bank1 => exact absurd rfl hne

/-- A bank that is not ACTIVE may change where a READY one passes the close checks (R25, R26, R32). -/
theorem setBank_keeps_laws {s : State} (h : Inv s) (hr : s.pins.rst = false) {b : BankId} {x : Bank}
    (hb : (s.banks.get b).state ≠ .active) (hx : x.state ≠ .active)
    (hpass : x.state ≠ .editing → closeChecks x.contents = none) :
    Inv { s with banks := s.banks.set b x } := by
  have hforce := inForce_set hb hx
  obtain ⟨hact, hsingle, hp0, hp1⟩ := h.bank
  obtain ⟨hpend, htarget, hframes, hfirst⟩ := h.switch
  refine Rest.inv { rest_of_inv h hr with sequencer := ?_, bank := ?_, switch := ⟨?_, ?_, ?_, ?_⟩ } h.mode
  · simpa only [SequencerLaw, hforce] using h.sequencer
  · cases b <;> simp_all [BankLaw, BankControl.set, BankControl.get]
  · cases b <;> exact hpend
  · cases hp : s.banks.pendingSwitch with
    | none => cases b <;> simp [BankControl.set, hp]
    | some i => cases b <;> cases i <;> simp_all [BankControl.set, BankControl.get]
  · cases b <;> exact hframes
  · cases b <;> exact hfirst

/-- The settings stored keep the laws under the conditions of R158. -/
theorem storeSettings_keeps_laws {s : State} (h : Inv s) (hr : s.pins.rst = false) {t : Settings}
    (hok : settingsRefused t s = false) (hthr : 1 ≤ t.alertThreshold.val) : Inv (storeSettings t s) := by
  obtain ⟨hdiv, hpulse⟩ := h.time
  obtain ⟨hstop, hrun, hgap, hlow, hup, hguard⟩ := h.sequencer
  obtain ⟨hpend, htarget, hframes, hfirst⟩ := h.switch
  obtain ⟨hfit, -⟩ := (incidentLaw_iff s).mp h.incidents
  have hsync : s.seq.state ≠ .stopped → t.syncMode = s.settings.syncMode := by
    intro hs
    simp_all [settingsRefused]
  have halt : s.banks.pendingSwitch.isSome = true → t.alternation = false := by
    intro hp
    have := (hpend hp).2
    simp_all [settingsRefused]
  refine Rest.inv { rest_of_inv h hr with
    time := ⟨?_, hpulse⟩
    sequencer := ⟨hstop, hrun, fun hs => ?_, hlow, hup, hguard⟩
    switch := ⟨fun hp => ⟨(hpend hp).1, halt hp⟩, htarget, ?_, fun hs => ?_⟩
    incidents := (incidentLaw_iff _).mpr ⟨hfit, hthr⟩ } h.mode
  · simp only [storeSettings, tickPeriod]
    split
    case isTrue heq => rw [heq]; exact hdiv
    case isFalse => omega
  · have hs : s.seq.state = .gap := hs
    obtain ⟨hphase, hzero, hfollow⟩ := hgap hs
    exact ⟨hphase, hzero, (hsync (by simp [hs])).trans hfollow⟩
  · simp only [storeSettings]
    split <;> omega
  · have hzero := hfirst hs
    simp only [storeSettings]
    split
    · rfl
    · exact hzero

/-- The sequencer about to start on a READY bank: ready for its first frame start or for GAP (R5, R37). -/
theorem startedOn_ready {s : State} (h : Inv s) (hr : s.pins.rst = false) {b : BankId}
    (hp : s.banks.pendingSwitch = none) (hs : s.seq.state = .stopped) (hb : (s.banks.get b).state = .ready) :
    FrameReady (Banks.startedOn b s) := by
  have hrest := rest_of_inv h hr
  obtain ⟨hact, -, hp0, hp1⟩ := h.bank
  obtain ⟨-, -, hframes, -⟩ := h.switch
  obtain ⟨-, -, -, -, hgap, hguard⟩ := h.sequencer
  have hnone : s.banks.bank0.state ≠ .active ∧ s.banks.bank1.state ≠ .active := by
    simpa [not_or, hs] using hact
  have hbanks : BanksReady s.settings.alternation (s.banks.setState b .active) := by
    cases b <;> refine ⟨?_, ?_, ?_, ?_, ?_, ?_, hframes⟩ <;>
      simp_all [BankControl.setState, BankControl.set, BankControl.get]
  exact
    { time := h.time
      counts := ⟨hgap, hguard⟩
      banks := hbanks
      mode := h.mode
      hold := h.hold
      tags := h.tags
      returns := h.returns
      slot := h.slot
      incidents := h.incidents
      link := h.link
      awake := hr
      noResponse := hrest.noResponse }

/-- A start keeps the laws: a first frame start in FREE, entry to GAP in FOLLOW (R5). -/
theorem startOn_keeps_laws {s : State} (h : Inv s) (hr : s.pins.rst = false) {b : BankId}
    (hp : s.banks.pendingSwitch = none) (hs : s.seq.state = .stopped) (hb : (s.banks.get b).state = .ready) :
    Inv (startOn b s) := by
  have hready := startedOn_ready h hr hp hs hb
  cases hm : s.settings.syncMode with
  | free =>
    rw [Banks.startOn_free hm]
    exact frameStart_keeps_laws hready _
  | follow =>
    obtain ⟨-, -, -, hzero⟩ := h.switch
    rw [Banks.startOn_follow hm]
    exact enterGap_keeps_laws hready h.credit hm fun _ => (Banks.setState_framesInBank ..).trans (hzero (.inl hs))

/-- A stop of the schedule with nothing requested and STRAIGHT in force (R21, R40, R58). -/
theorem stopped_laws (s : State) (h : Inv s) :
    SequencerLaw { s with seq := s.seq.stop } ∧ BankLaw { s with seq := s.seq.stop, banks := s.banks.stop } ∧
    SwitchLaw { s with seq := s.seq.stop, banks := s.banks.stop } := by
  obtain ⟨-, -, hp0, hp1⟩ := h.bank
  have hstand : ∀ b : Bank, b.standDown.state ≠ .active := by
    intro b
    unfold Bank.standDown
    cases b.state <;> simp
  have hpass : ∀ b : Bank, (b.state ≠ .editing → closeChecks b.contents = none) →
      b.standDown.state ≠ .editing → closeChecks b.standDown.contents = none := by
    intro b hb hne
    refine hb fun hed => hne ?_
    simp [Bank.standDown, hed]
  refine ⟨by simp [SequencerLaw, Sequencer.stop], ⟨?_, ?_, hpass _ hp0, hpass _ hp1⟩, ?_⟩
  · simp [BankControl.stop, hstand, Sequencer.stop]
  · simp [BankControl.stop, hstand]
  · simp [SwitchLaw, BankControl.stop]

theorem stopSchedule_keeps_laws {s : State} (h : Inv s) (hr : s.pins.rst = false) (hm : s.mode.inForce = .straight)
    (hreq : s.mode.requested = none) : Inv (stopSchedule s) := by
  obtain ⟨hseq, hbank, hswitch⟩ := stopped_laws s h
  obtain ⟨htarget, hne, hrq, -, hheld, hpass⟩ := h.mode
  refine Rest.inv { rest_of_inv h hr with
    sequencer := ?_, bank := hbank, switch := hswitch, credit := fun p => ?_ } 
    ⟨htarget, hne, hrq, fun _ => ⟨hm, hreq⟩, hheld, hpass⟩
  · simp [SequencerLaw, Sequencer.stop, stopSchedule]
  · have hcredit : (stopSchedule s).credit[p] = (s.credit[p]).stop := getElem_mapAll ..
    rw [hcredit]
    simp [Credit.stop]

/-- The oldest record leaves; the others keep their consecutive numbers (R142, R144). -/
theorem takeIncident_keeps_fit {u : IncidentUnit} {r : IncidentRecord} {rest : List IncidentRecord}
    (h : RecordsFit u) (hq : u.queue = r :: rest) : RecordsFit { u with queue := rest, lost := 0 } := by
  obtain ⟨hlen, hseq, hrep, -⟩ := h
  rw [hq] at hlen hseq hrep
  refine ⟨by simp at hlen; dsimp only; omega, ?_, fun x hx => hrep x (by simp [hx]), Nat.zero_le _⟩
  rw [List.length_cons, List.range_succ_eq_map, List.map_cons, List.map_cons, List.map_map] at hseq
  have htail := List.tail_eq_of_cons_eq hseq
  simpa [Function.comp_def] using htail

/-- An empty Hold Store. -/
theorem emptyHold_facts {t : State} (h : t.hold = Vector.replicate 8 []) :
    HoldLaw t ∧ storeEmpty t = true ∧ liveKeys t = t.ott.toList.filterMap openKey := by
  have hq : ∀ p : Partition, t.hold[p] = [] := fun p => by simp [h]
  refine ⟨⟨?_, fun p => by simp [hq p]⟩, storeEmpty_iff.mpr hq, ?_⟩
  · rw [storeCount_eq_zero.mpr (storeEmpty_iff.mpr hq)]
    exact Nat.zero_le _
  · rw [liveKeys_eq, h]
    rfl

/-- A regulator reset: the held entries leave their room in the Return Queue to their answers (R105, R160). -/
theorem regulatorReset_keeps_laws {s : State} (h : Inv s) (hr : s.pins.rst = false) : Inv (regulatorReset s) := by
  obtain ⟨-, hbank, hswitch⟩ := stopped_laws s h
  obtain ⟨hdiv, -⟩ := h.time
  obtain ⟨-, -, -, -, hthr⟩ := h.incidents
  obtain ⟨hhold, hempty, hkeys⟩ := emptyHold_facts (t := regulatorReset s) rfl
  refine Rest.inv { rest_of_inv h hr with
    time := ⟨hdiv, Nat.zero_le _⟩
    sequencer := by simp [SequencerLaw, Sequencer.stop, regulatorReset]
    bank := hbank, switch := hswitch, hold := hhold
    credit := fun p => by simp [regulatorReset, Credit.zero]
    tags := ?_, returns := ?_
    incidents := ⟨Nat.zero_le _, rfl, by simp [regulatorReset, IncidentUnit.reset], Nat.zero_le _, hthr⟩ } ?_
  · have htags := h.tags
    rw [TagLaw, liveKeys_eq] at htags
    rw [TagLaw, hkeys]
    exact (List.nodup_append.mp htags).2.1
  · have hret := h.returns
    have hlive : liveCount (regulatorReset s) = openCount s := by rw [liveCount_eq, hkeys, openCount_eq]; rfl
    have hqueue : (regulatorReset s).returnQueue.length = s.returnQueue.length + storeCount s := by
      simp only [regulatorReset, heldAborts, storeCount_eq, List.length_append, List.length_map]
    simp only [ReturnLaw, liveCount] at hret hlive ⊢
    omega
  · exact ⟨by simp [regulatorReset, ModeControl.reset], by simp [regulatorReset, ModeControl.reset],
      by simp [regulatorReset, ModeControl.reset], fun _ => ⟨rfl, rfl⟩, nofun, fun _ => hempty⟩

theorem openKey_flush (x : OttEntry) : openKey x.flush = openKey x := by cases x <;> rfl

theorem entryFits_flush {o : Option Offer} {drst : Bool} {i : OttIndex} {x : OttEntry} (h : EntryFits o drst i x) :
    EntryFits o drst i x.flush := by
  cases x with
  | free => trivial
  | opened t n => exact h
  | expired t => trivial

/-- A new OTT under the same offer, with its part of the laws. -/
theorem setOtt_keeps_laws {s : State} (h : Inv s) (hr : s.pins.rst = false) (v : Vector OttEntry 32)
    (hlive : TagLaw { s with ott := v } ∧ ReturnLaw { s with ott := v }) (hslot : SlotLaw { s with ott := v }) :
    Inv { s with ott := v } :=
  Rest.inv { rest_of_inv h hr with tags := hlive.1, returns := hlive.2, slot := hslot } h.mode

/-- The EXPIRED entries are freed (R131). -/
theorem flush_keeps_laws {s : State} (h : Inv s) (hr : s.pins.rst = false) :
    Inv { s with ott := mapAll OttEntry.flush s.ott } :=
  setOtt_keeps_laws h hr _
    (sameLive_laws (liveKeys_mapAll (s := s) openKey_flush rfl rfl) (Nat.le_refl _) h.tags h.returns)
    (slotLaw_mapAll h.slot rfl rfl rfl fun _ _ => entryFits_flush)

/-- Whatever a command of the link does keeps the laws. -/
theorem effect_keeps_laws {s t : State} {st : ReplyStatus} (h : Inv s) (hr : s.pins.rst = false)
    (he : Effect s t st) : Inv t := by
  cases he with
  | nothing => exact h
  | bankWritten b c hb => exact setBank_keeps_laws h hr hb (by simp) (by simp)
  | bankClosed b hed hpass => exact setBank_keeps_laws h hr (by simp [hed]) (by simp) fun _ => hpass
  | settingsStored t hok hthr => exact storeSettings_keeps_laws h hr hok hthr
  | started b ha hp hs hb => exact startOn_keeps_laws h hr hp hs hb
  | switchPending b ha hb hs =>
    obtain ⟨-, -, hframes, hzero⟩ := h.switch
    have htarget : ∀ x : BankControl, x.get = s.banks.get → decide ((x.get b).state ≠ .active) = true := by
      intro x hx
      simpa [hx] using hb
    refine Rest.inv { rest_of_inv h hr with switch := ⟨fun _ => ⟨hs, ha⟩, htarget _ ?_, hframes, hzero⟩ } h.mode
    funext i
    cases i <;> rfl
  | switchCancelled =>
    obtain ⟨-, -, hframes, hzero⟩ := h.switch
    exact Rest.inv { rest_of_inv h hr with switch := ⟨nofun, rfl, hframes, hzero⟩ } h.mode
  | modeRequested m hm hs =>
    obtain ⟨htarget, hne, -, -, hheld, hpass⟩ := h.mode
    exact Rest.inv { rest_of_inv h hr with }
      ⟨htarget, hne, by simpa using hm, fun hstop => absurd hstop hs, hheld, hpass⟩
  | stopped hm hreq => exact stopSchedule_keeps_laws h hr hm hreq
  | lostTaken hq =>
    obtain ⟨⟨hlen, hseq, hrep, -⟩, hthr⟩ := (incidentLaw_iff s).mp h.incidents
    exact Rest.inv { rest_of_inv h hr with
      incidents := (incidentLaw_iff _).mpr ⟨⟨hlen, hseq, hrep, Nat.zero_le _⟩, hthr⟩ } h.mode
  | incidentTaken r rest hq =>
    obtain ⟨hfit, hthr⟩ := (incidentLaw_iff s).mp h.incidents
    exact Rest.inv { rest_of_inv h hr with
      incidents := (incidentLaw_iff _).mpr ⟨takeIncident_keeps_fit hfit hq, hthr⟩ } h.mode
  | countersCleared => exact Rest.inv { rest_of_inv h hr with } h.mode
  | quarantineFlushed => exact flush_keeps_laws h hr
  | regulatorReset => exact regulatorReset_keeps_laws h hr

/-! ## Replies fit the Reply Register (R149) -/

@[simp] theorem beBytes_length {w : Nat} (k : Nat) (v : BitVec w) : (beBytes k v).length = k := by
  induction k with
  | zero => rfl
  | succ k ih => simp [beBytes, ih]

@[simp] theorem lengthBytes_length (v : Vector Half 8) : (lengthBytes v).length = 16 := by simp [lengthBytes]

theorem statusBytes_length (s : State) : (statusBytes s).length = 34 := by simp [statusBytes]

theorem incidentBytes_length (r : IncidentRecord) : (incidentBytes r).length = 19 := by simp [incidentBytes, addrBytes]

theorem transactionBytes_length (i : OttIndex) (x : Bool) (t : Transaction) (n : Nat) :
    (transactionBytes i x t n).length = 13 := by simp [transactionBytes, addrBytes]

/-- Every entry listed takes 13 bytes (11.6). -/
theorem listedFrom_length {s : State} {first : OttIndex} {bytes : List Byte} (h : bytes ∈ listedFrom s first) :
    bytes.length = 13 := by
  obtain ⟨i, -, hi⟩ := List.mem_filterMap.mp h
  unfold listEntry at hi
  split at hi
  · cases hi
  · rw [← Option.some.inj hi, transactionBytes_length]
  · rw [← Option.some.inj hi, transactionBytes_length]

/-- Equal lengths add up to their product. -/
theorem length_flatten_le {α : Type} {l : List (List α)} {k : Nat} (h : ∀ x ∈ l, x.length = k) :
    l.flatten.length = l.length * k := by
  induction l with
  | nil => simp
  | cons x l ih =>
    rw [List.flatten_cons, List.length_append, h x List.mem_cons_self, ih fun y hy => h y (List.mem_cons_of_mem x hy),
      List.length_cons, Nat.succ_mul, Nat.add_comm]

theorem listingBytes_length (s : State) (first : OttIndex) : (listingBytes s first).length ≤ 209 := by
  have hflat : (((listedFrom s first).take 16).flatten).length = ((listedFrom s first).take 16).length * 13 :=
    length_flatten_le fun x hx => listedFrom_length (List.mem_of_mem_take hx)
  have htake := List.length_take_le 16 (listedFrom s first)
  unfold listingBytes
  rw [List.length_cons, hflat]
  omega

/-- A command that changes the part, or refuses to, replies with two bytes at most. -/
theorem short_replies (s : State) :
    (∀ b f, (writeBank b f s).2.bytes.length ≤ 2) ∧ (∀ b, (cmdCloseBank b s).2.bytes.length ≤ 2) ∧
    (∀ b, (cmdRequestSwitch b s).2.bytes.length ≤ 2) ∧ (∀ m, (cmdSetMode m s).2.bytes.length ≤ 2) ∧
    (cmdCancelSwitch s).2.bytes.length ≤ 2 ∧ (cmdStopSchedule s).2.bytes.length ≤ 2 := by
  refine ⟨fun b f => ?_, fun b => ?_, fun b => ?_, fun m => ?_, ?_, ?_⟩
  · unfold writeBank
    split <;> exact Nat.zero_le _
  · unfold cmdCloseBank
    (repeat' split) <;> simp [refuse, replyOf, checkFailed, Reply.done]
  · unfold cmdRequestSwitch
    (repeat' split) <;> exact Nat.zero_le _
  · unfold cmdSetMode
    (repeat' split) <;> exact Nat.zero_le _
  · unfold cmdCancelSwitch
    split <;> exact Nat.zero_le _
  · unfold cmdStopSchedule
    (repeat' split) <;> exact Nat.zero_le _

/-- Every reply fits the Reply Register (R149). -/
theorem perform_reply_fits (c : LinkCommand) (s : State) : (perform c s).2.bytes.length ≤ 255 := by
  obtain ⟨hwrite, hclose, hswitch, hmode, hcancel, hstop⟩ := short_replies s
  have hbank : ∀ b f, (writeBank b f s).2.bytes.length ≤ 255 := fun b f => Nat.le_trans (hwrite b f) (by decide)
  cases c with
  | nop | clearStatistics | resetRegulator => exact Nat.zero_le _
  | flushQuarantine => exact Nat.succ_le_succ (Nat.zero_le 254)
  | readStatus => exact Nat.le_trans (Nat.le_of_eq (statusBytes_length s)) (by decide)
  | readSettings => simp [perform, cmdReadSettings, replyData, settingsBytes]
  | writeSettings =>
    simp only [perform, cmdWriteSettings]
    (repeat' split) <;> exact Nat.zero_le _
  | readPhases =>
    simp only [perform, cmdReadPhases]
    split <;> simp [refuse, replyOf, replyData, phasesBytes]
  | readPartition =>
    simp only [perform, cmdReadPartition]
    split <;> simp [refuse, replyOf, replyData, recordBytes]
  | readMap =>
    simp only [perform, cmdReadMap]
    split <;> simp [refuse, replyOf, replyData]
    omega
  | readStatistics =>
    simp only [perform, cmdReadStatistics]
    split <;> simp [refuse, replyOf, replyData, statisticsBytes]
  | readTransactions =>
    simp only [perform, cmdReadTransactions]
    split
    · exact Nat.zero_le _
    · exact Nat.le_trans (listingBytes_length s _) (by decide)
  | writePhases =>
    simp only [perform, cmdWritePhases]
    split
    · exact Nat.zero_le _
    · exact hbank ..
  | writePartition =>
    simp only [perform, cmdWritePartition]
    split
    · exact hbank ..
    · exact Nat.zero_le _
  | writeMap =>
    simp only [perform, cmdWriteMap]
    split
    · exact Nat.zero_le _
    · exact hbank ..
  | copyBank =>
    simp only [perform, cmdCopyBank]
    split
    · exact Nat.zero_le _
    · exact hbank ..
  | closeBank b => exact Nat.le_trans (hclose b) (by decide)
  | requestSwitch b => exact Nat.le_trans (hswitch b) (by decide)
  | cancelSwitch => exact Nat.le_trans hcancel (by decide)
  | setMode m => exact Nat.le_trans (hmode m) (by decide)
  | stopSchedule => exact Nat.le_trans hstop (by decide)
  | takeIncident =>
    simp only [perform, cmdTakeIncident]
    split <;> simp [replyData, incidentBytes_length]

/-! ## The Configuration Link (R149 to R154) -/

/-- A new level of CS_N and a new link state, with their part of the laws. -/
theorem setLink_keeps_laws {s : State} (h : Inv s) (hr : s.pins.rst = false) (cs : Bool) (l : Link)
    (hl : LinkLaw { s with pins := { s.pins with cs := cs }, link := l }) :
    Inv { s with pins := { s.pins with cs := cs }, link := l } :=
  Rest.inv { rest_of_inv h hr with link := hl } h.mode

/-- A link whose state alone, and perhaps whose reply, is new. -/
theorem setReply_keeps_laws {s : State} (h : Inv s) (hr : s.pins.rst = false) {l : Link}
    (hreply : l.reply.bytes.length ≤ 255) (hbuffer : l.buffer = s.link.buffer) (hbits : l.bits = s.link.bits)
    (hfits : linkStateFits { s with link := l } = true) : Inv { s with link := l } := by
  obtain ⟨-, hbuf, hbit, -⟩ := h.link
  exact Rest.inv { rest_of_inv h hr with
    link := ⟨hreply, by simpa only [hbuffer] using hbuf, by simpa only [hbits] using hbit, hfits⟩ } h.mode

theorem perform_keeps_laws {s : State} (h : Inv s) (hr : s.pins.rst = false) (c : LinkCommand) :
    Inv (perform c s).1 := effect_keeps_laws h hr (perform_does c s)

/-- The frame of an execution (R154). -/
theorem perform_frame (c : LinkCommand) (s : State) :
    (perform c s).1.pins = s.pins ∧ (perform c s).1.link = s.link ∧ (perform c s).1.presented = s.presented ∧
    (perform c s).1.memPresented = s.memPresented ∧ (perform c s).1.pending = s.pending :=
  effect_frame (perform_does c s)

@[simp] theorem perform_pins (c : LinkCommand) (s : State) : (perform c s).1.pins = s.pins := by
  obtain ⟨h, -⟩ := perform_frame c s
  exact h

@[simp] theorem perform_link (c : LinkCommand) (s : State) : (perform c s).1.link = s.link := by
  obtain ⟨-, h, -⟩ := perform_frame c s
  exact h

@[simp] theorem perform_pending (c : LinkCommand) (s : State) : (perform c s).1.pending = s.pending := by
  obtain ⟨-, -, -, -, h⟩ := perform_frame c s
  exact h

theorem carryOut_keeps_laws {s : State} (h : Inv s) (hr : s.pins.rst = false) (hcs : s.pins.cs = false)
    (c : LinkCommand) : Inv (carryOut c s) := by
  obtain ⟨hreply, -⟩ := h.link
  have hfits := perform_reply_fits c s
  refine setReply_keeps_laws (perform_keeps_laws h hr c) (by simpa using hr) (by simpa using hreply) rfl rfl ?_
  simp [linkStateFits, hcs, hfits]

/-- The end of an execution keeps the laws (R154). -/
theorem finishExecution_keeps_laws {s : State} (h : Inv s) (hr : s.pins.rst = false) : Inv (finishExecution s) := by
  unfold finishExecution
  split
  case h_1 c hx =>
    exact setReply_keeps_laws (perform_keeps_laws h hr c) (by simpa using hr) (perform_reply_fits c s) rfl rfl rfl
  case h_2 r hx =>
    obtain ⟨-, -, -, hfits⟩ := h.link
    have hlen : r.bytes.length ≤ 255 := by
      simp only [linkStateFits, hx, Bool.and_eq_true, decide_eq_true_eq] at hfits
      exact hfits.2
    exact setReply_keeps_laws h hr hlen rfl rfl rfl
  case h_3 => exact h
  case h_4 => exact h

@[simp] theorem finishExecution_pins (s : State) : (finishExecution s).pins = s.pins := by
  unfold finishExecution
  split
  case h_1 c _ => exact perform_pins c s
  all_goals rfl

theorem runCommand_keeps_laws {s : State} (h : Inv s) (hr : s.pins.rst = false) (c : LinkCommand) :
    Inv (runCommand c s) := by
  unfold runCommand
  split
  case isTrue => exact h
  case isFalse hfree =>
    have hcs : s.pins.cs = false := by simpa [hr] using hfree
    split
    case isTrue => exact carryOut_keeps_laws h hr hcs c
    case isFalse =>
      exact carryOut_keeps_laws (finishExecution_keeps_laws h hr) (by simpa using hr) (by simpa using hcs) c

theorem csAssert_keeps_laws {s : State} (h : Inv s) (hr : s.pins.rst = false) : Inv (csAssert s) := by
  unfold csAssert
  split
  case isTrue => exact h
  case isFalse =>
    rw [if_neg (by simp [hr])]
    have hdone := finishExecution_keeps_laws h hr
    obtain ⟨hreply, -⟩ := hdone.link
    exact setLink_keeps_laws hdone (by simpa using hr) _ _ ⟨hreply, Nat.zero_le _, Nat.zero_lt_succ 7, rfl⟩

/-- The bits left over from the whole bytes are fewer than eight (R150). -/
theorem groupBits_rest_lt : ∀ bits : List Bool, (groupBits bits).2.length < 8
  | _ :: _ :: _ :: _ :: _ :: _ :: _ :: _ :: rest => groupBits_rest_lt rest
  | [] | [_] | [_, _] | [_, _, _] | [_, _, _, _] | [_, _, _, _, _] | [_, _, _, _, _, _] | [_, _, _, _, _, _, _] => by
    simp [groupBits]

theorem mapEntries?_length {bs : List Byte} {es : List (Option Partition)} (h : mapEntries? bs = some es) :
    es.length = bs.length := by
  induction bs generalizing es with
  | nil => cases h; rfl
  | cons b bs ih =>
    unfold mapEntries? at h
    split at h
    case h_1 e rest _ hrest =>
      cases h
      simp [ih hrest]
    case h_2 => cases h

/-- What a WRITE_MAP in range writes: as many entries as its count, 1 to 64, within the 64 requesters (R29). -/
theorem mapWrite?_eq_some {b f n : Byte} {es : List Byte} {i : BankId} {first : Nat}
    {entries : List (Option Partition)} (h : mapWrite? b f n es = some (i, first, entries)) :
    entries.length = es.length ∧ es.length = n.toNat ∧ 1 ≤ n.toNat ∧ n.toNat ≤ 64 ∧
      first + n.toNat ≤ 64 := by
  unfold mapWrite? at h
  split at h
  case h_2 => cases h
  case h_1 bank f' n' es' hrun hentries =>
    have hlen := mapEntries?_length hentries
    split at h
    case isFalse => cases h
    case isTrue hcount =>
      cases h
      unfold mapRun? at hrun
      split at hrun
      · split at hrun
        · cases hrun
          omega
        · cases hrun
      · cases hrun

/-- A command in range is one that a sound frame can carry (R151, R153). -/
theorem wf_of_argsInRange {c : LinkCommand} (h : argsInRange c = true) : c.wf = true := by
  cases c with
  | writeMap b f n es =>
    obtain ⟨⟨i, first, entries⟩, hw⟩ := Option.isSome_iff_exists.mp h
    obtain ⟨-, hlen, -, hmax, -⟩ := mapWrite?_eq_some hw
    simp only [LinkCommand.wf, mapEntriesFit, mapEntriesMatch, Bool.and_eq_true, decide_eq_true_eq]
    omega
  | _ => rfl

/-- A frame that passes the checks carries a command in range (R153). -/
theorem checkFrame_sound {bytes : List Byte} {bits : List Bool} {c : LinkCommand}
    (h : checkFrame bytes bits = .sound c) : argsInRange c = true := by
  unfold checkFrame at h
  split at h
  case h_1 => cases h
  case h_2 =>
    split at h
    case isFalse => cases h
    case isTrue =>
      unfold checkCommand at h
      split at h
      · cases h
      · cases h
      · split at h
        · cases h
          assumption
        · cases h

/-- The link at the end of a transaction keeps to its sizes, and executes nothing but a command in range (R150 to
R154). -/
theorem endTransaction_fits {l : Link} (hreply : l.reply.bytes.length ≤ 255)
    (hbuffer : l.buffer.length ≤ Config.frameBufferBytes) (hbits : l.bits.length < 8) (early : Bool)
    (mosi : List Bool) (s : State) (hcs : s.pins.cs = false) :
    LinkLaw { s with link := l.endTransaction early mosi } := by
  have hbuf : ((groupBits mosi).1.take Config.frameBufferBytes).length ≤ Config.frameBufferBytes :=
    List.length_take_le ..
  have hrest := groupBits_rest_lt mosi
  unfold Link.endTransaction
  split
  case isTrue => exact ⟨hreply, hbuffer, hbits, rfl⟩
  case isFalse =>
    split
    case isTrue => exact ⟨Nat.zero_le _, hbuf, hrest, rfl⟩
    case isFalse =>
      split
      case h_1 => exact ⟨Nat.zero_le _, hbuf, hrest, rfl⟩
      case h_2 c hc =>
        have hin := checkFrame_sound hc
        exact ⟨hreply, hbuf, hrest, by simp [linkStateFits, hcs, hin, wf_of_argsInRange hin]⟩

theorem csDeassert_keeps_laws {s : State} (h : Inv s) (hr : s.pins.rst = false) (mosi : List Bool) :
    Inv (csDeassert mosi s) := by
  obtain ⟨hreply, hbuffer, hbits, hfits⟩ := h.link
  unfold csDeassert
  split
  case isFalse => exact h
  case isTrue hcs =>
    refine setLink_keeps_laws h hr _ _ ?_
    split
    case h_1 early _ =>
      exact endTransaction_fits hreply hbuffer hbits early mosi { s with pins := { s.pins with cs := false } } rfl
    case h_2 hidle => exact ⟨hreply, hbuffer, hbits, by simp [linkStateFits, hidle]⟩
    case h_3 x hx =>
      exfalso
      cases x <;> simp [linkStateFits, hx, hcs] at hfits

/-! ## Resets (R4, R87, R165) -/

/-- Every state under pin reset meets the laws, whatever was before (R4, R87). -/
theorem pinReset_laws (s : State) : Inv (pinReset s) where
  time := ⟨show 0 < (49 + 1) * 32 by decide, Nat.zero_le _⟩
  sequencer := by simp [SequencerLaw, pinReset, State.reset, Sequencer.reset]
  bank := by simp [BankLaw, pinReset, State.reset, Sequencer.reset, BankControl.reset]
  switch := by simp [SwitchLaw, pinReset, State.reset, BankControl.reset]
  credit := fun p => by simp [pinReset, State.reset, Credit.zero]
  mode := by
    obtain ⟨-, hempty, -⟩ := emptyHold_facts (t := pinReset s) rfl
    exact ⟨by simp [pinReset, State.reset, ModeControl.reset], by simp [pinReset, State.reset, ModeControl.reset],
      by simp [pinReset, State.reset, ModeControl.reset], fun _ => ⟨rfl, rfl⟩, nofun, fun _ => hempty⟩
  hold := (emptyHold_facts rfl).1
  tags := by
    rw [TagLaw, liveKeys_allFree (s := pinReset s) rfl rfl]
    exact List.nodup_nil
  returns := by
    rw [ReturnLaw, liveCount_eq, liveKeys_allFree (s := pinReset s) rfl rfl]
    exact Nat.zero_le _
  slot := (slotLaw_iff _).mpr ⟨fun i => by
    have hfree : (pinReset s).ott[i] = .free := by simp [pinReset, State.reset]
    rw [hfree]
    trivial, by simp [pinReset, State.reset, OfferFits]⟩
  incidents := by simp [IncidentLaw, pinReset, State.reset, IncidentUnit.reset, Settings.reset]
  link := ⟨Nat.zero_le _, Nat.zero_le _, Nat.zero_lt_succ 7, rfl⟩
  reset := ⟨fun _ => rfl, fun _ => rfl⟩

/-- A part just released from pin reset, before a response still presented is taken (R2, R165). -/
def released (s : State) : State :=
  { s with pins := { s.pins with rst := false }, divider := 0, memPresented := none }

theorem endPinReset_none {s : State} (hr : s.pins.rst = true) (hm : s.memPresented = none) :
    endPinReset s = released s := by
  unfold endPinReset
  rw [if_pos hr, hm]
  rfl

theorem endPinReset_some {s : State} {r : Response} (hr : s.pins.rst = true) (hm : s.memPresented = some r) :
    endPinReset s = takeResponse r (released s) := by
  unfold endPinReset
  rw [if_pos hr, hm]
  rfl

/-- The release from pin reset keeps the laws (R2, R165). -/
theorem released_laws {s : State} (h : Inv s) : Inv (released s) :=
  Rest.inv
    { time := ⟨Nat.mul_pos (Nat.succ_pos _) (by decide), h.time.2⟩
      sequencer := h.sequencer
      bank := h.bank
      switch := h.switch
      credit := h.credit
      hold := h.hold
      tags := h.tags
      returns := h.returns
      slot := h.slot
      incidents := h.incidents
      link := h.link
      awake := rfl
      noResponse := rfl } h.mode

theorem endPinReset_keeps_laws {s : State} (h : Inv s) : Inv (endPinReset s) := by
  cases hr : s.pins.rst with
  | false => simpa [endPinReset, hr] using h
  | true =>
    cases hm : s.memPresented with
    | none =>
      rw [endPinReset_none hr hm]
      exact released_laws h
    | some r =>
      rw [endPinReset_some hr hm]
      exact takeResponse_keeps_laws (released_laws h) rfl r

/-- Settles O59: the state after reset is the part released from pin reset. -/
theorem lawsHoldAtReset : Obligations.LawsHoldAtReset := released_laws (pinReset_laws State.reset)

/-- No expiry waits under pin reset. -/
theorem pinReset_quiet (s : State) : quiet (pinReset s) = true := by
  have hdue : deadlineDue (pinReset s) = false := by
    simp [deadlineDue, pinReset, State.reset, OttEntry.isDue]
  exact quiet_iff.mpr ⟨rfl, rfl, hdue⟩

/-- A command other than RST_N_DEASSERTION finds a part under pin reset and leaves one: no more than a level or what
is presented at a port has changed (R87, R165). -/
theorem exec_under_reset {c : Instr} (hc : c ≠ .rstNDeassertion) (s : State) :
    ∃ t, exec c (pinReset s) = .next (pinReset t) := by
  have hev : ∀ f, event f (pinReset s) = .next (f (pinReset s)) := fun f => event_of_quiet f (pinReset_quiet s)
  have hrun : ∀ k, event (runCommand k) (pinReset s) = .next (pinReset s) := fun k => by
    rw [hev]
    rfl
  obtain ⟨hphase, hguard, hdue⟩ := quiet_iff.mp (pinReset_quiet s)
  cases c with
  | rstNDeassertion => exact absurd rfl hc
  | pinReset => exact ⟨s, rfl⟩
  | phaseExpiry => exact ⟨s, by simp [exec, execPhaseExpiry, hphase]⟩
  | guardExpiry => exact ⟨s, by simp [exec, execGuardExpiry, hguard]⟩
  | deadlineExpiry => exact ⟨s, by simp [exec, execDeadlineExpiry, ottReaction_of_not_due hdue]⟩
  | tick | syncInArrival | frameOutPulseEnd | acceptance | responseDelivery | endOfExecution => exact ⟨s, hev _⟩
  | release =>
    have hwaits : canRelease (pinReset s) = false := by
      simp [canRelease, pinReset, State.reset, ModeControl.reset, Mode.releases]
    exact ⟨s, (hev _).trans (by simp [releaseHead, hwaits])⟩
  | requestArrival q =>
    refine ⟨present q s, (hev _).trans ?_⟩
    cases hp : s.presented <;> simp [present, pinReset, hp]
  | taking =>
    refine ⟨s, (hev _).trans ?_⟩
    cases hp : s.presented <;> simp [takePresented, pinReset, hp, canTake]
  | responseArrival r =>
    refine ⟨{ s with memPresented := match s.memPresented with
        | some first => some first
        | none => some r }, (hev _).trans ?_⟩
    rfl
  | drstNAssertion =>
    refine ⟨{ s with pins := { s.pins with drst := true } }, (hev _).trans ?_⟩
    cases hp : s.pins.drst <;> simp [drstAssert, pinReset, hp]
  | drstNDeassertion => exact ⟨{ s with pins := { s.pins with drst := false } }, hev _⟩
  | csNAssertion =>
    refine ⟨{ s with pins := { s.pins with cs := true } }, (hev _).trans ?_⟩
    cases hp : s.pins.cs <;> simp [csAssert, pinReset, hp]
  | csNDeassertion mosi =>
    refine ⟨{ s with pins := { s.pins with cs := false } }, (hev _).trans ?_⟩
    cases hp : s.pins.cs <;> simp [csDeassert, pinReset, hp, State.reset, Link.reset]
  | _ => exact ⟨s, hrun _⟩

/-- A command keeps the laws on a part out of pin reset. -/
theorem exec_awake_keeps_laws {s : State} (h : Inv s) (hr : s.pins.rst = false) (c : Instr) :
    ∃ t, exec c s = .next t ∧ Inv t := by
  have hs := settle_keeps_laws h hr
  have hrs : (settle s).pins.rst = false := by rw [settle_pins]; exact hr
  cases c with
  | pinReset => exact ⟨_, rfl, pinReset_laws s⟩
  | rstNDeassertion => exact ⟨_, rfl, endPinReset_keeps_laws hs⟩
  | tick => exact ⟨_, rfl, countTick_keeps_laws hs hrs⟩
  | phaseExpiry =>
    refine ⟨_, rfl, ?_⟩
    split
    case isTrue hd => exact expirePhase_keeps_laws h hr ((phaseDue_iff s).mp hd).1
    case isFalse => exact h
  | guardExpiry =>
    refine ⟨_, rfl, ?_⟩
    split
    case isTrue hd =>
      have hgap := ((guardDue_iff s).mp hd).1
      exact recordedStart_keeps_laws h hr (by simp [hgap]) _ _
    case isFalse => exact h
  | syncInArrival => exact ⟨_, rfl, syncArrival_keeps_laws hs hrs⟩
  | frameOutPulseEnd => exact ⟨_, rfl, endPulse_keeps_laws hs hrs⟩
  | requestArrival q => exact ⟨_, rfl, present_keeps_laws hs hrs q⟩
  | taking => exact ⟨_, rfl, takePresented_keeps_laws hs hrs⟩
  | release => exact ⟨_, rfl, releaseHead_keeps_laws hs hrs⟩
  | acceptance => exact ⟨_, rfl, accept_keeps_laws hs hrs⟩
  | responseArrival r => exact ⟨_, rfl, arriveResponse_keeps_laws hs hrs r⟩
  | deadlineExpiry => exact ⟨_, rfl, ottReaction_keeps_laws h hr⟩
  | responseDelivery => exact ⟨_, rfl, deliverHead_keeps_laws hs hrs⟩
  | drstNAssertion => exact ⟨_, rfl, drstAssert_keeps_laws hs hrs⟩
  | drstNDeassertion => exact ⟨_, rfl, drstDeassert_keeps_laws hs hrs⟩
  | csNAssertion => exact ⟨_, rfl, csAssert_keeps_laws hs hrs⟩
  | csNDeassertion mosi => exact ⟨_, rfl, csDeassert_keeps_laws hs hrs mosi⟩
  | endOfExecution => exact ⟨_, rfl, finishExecution_keeps_laws hs hrs⟩
  | _ => exact ⟨_, rfl, runCommand_keeps_laws hs hrs _⟩

/-- A command keeps the laws. -/
theorem exec_keeps_laws {s t : State} (h : Inv s) {c : Instr} (ht : exec c s = .next t) : Inv t := by
  suffices hnext : ∃ u, exec c s = .next u ∧ Inv u by
    obtain ⟨u, hu, hinv⟩ := hnext
    cases hu.symm.trans ht
    exact hinv
  cases hr : s.pins.rst with
  | false => exact exec_awake_keeps_laws h hr c
  | true =>
    have hreset := h.reset.1 hr
    by_cases hc : c = .rstNDeassertion
    · subst hc
      have hquiet : quiet s = true := hreset ▸ pinReset_quiet s
      exact ⟨_, event_of_quiet _ hquiet, endPinReset_keeps_laws h⟩
    · obtain ⟨u, hu⟩ := exec_under_reset hc s
      exact ⟨_, by rw [← hreset]; exact hu, pinReset_laws u⟩

/-- A step on an empty queue keeps the laws: a REFCLK period, or nothing under pin reset (R1, log 11). -/
theorem idle_keeps_laws {s : State} (h : Inv s) : Inv (refclk (settle s)) := by
  cases hr : s.pins.rst with
  | false => exact refclk_keeps_laws (settle_keeps_laws h hr) (by rw [settle_pins]; exact hr)
  | true =>
    have hquiet : quiet s = true := h.reset.1 hr ▸ pinReset_quiet s
    rw [settle_of_quiet hquiet, refclk, if_pos hr]
    exact h

/-- The queue of commands is no part of any law. -/
theorem pending_keeps_laws {s : State} (h : Inv s) (q : List Instr) : Inv { s with pending := q } :=
  { time := h.time
    sequencer := h.sequencer
    bank := h.bank
    switch := h.switch
    credit := h.credit
    mode := h.mode
    hold := h.hold
    tags := h.tags
    returns := h.returns
    slot := h.slot
    incidents := h.incidents
    link := h.link
    reset := ⟨fun hr => congrArg (fun u : State => { u with pending := q }) (h.reset.1 hr), h.reset.2⟩ }

/-- Settles O60: command by command each operation keeps every law, and under pin reset nothing but levels and what is
presented at the ports can change. -/
theorem everyStepKeepsLaws : Obligations.EveryStepKeepsLaws := by
  intro s t h ht
  unfold step at ht
  split at ht
  case h_1 c rest _ => exact exec_keeps_laws (pending_keeps_laws h rest) ht
  case h_2 =>
    cases ht
    exact idle_keeps_laws h

/-- Settles O56: the law of the credit is one of those every step keeps. -/
theorem creditSumKept : Obligations.CreditSumKept := fun s t h ht => (everyStepKeepsLaws s t h ht).credit

/-- Settles O57: the bound on the Return Queue is one of the laws every step keeps. -/
theorem returnBoundKept : Obligations.ReturnBoundKept := fun s t h ht => (everyStepKeepsLaws s t h ht).returns

/-- Settles O58: the uniqueness of live tags is one of the laws every step keeps. -/
theorem liveTagsStayUnique : Obligations.LiveTagsStayUnique := fun s t h ht => (everyStepKeepsLaws s t h ht).tags

end Sys2Proof.Invariant
end

section
/-! PROOFS. The Time Base and the Frame Sequencer (Chapter 1). -/

namespace Sys2Proof.Ticks

open Sys2Proof.Machine Sys2Proof.Safety Sys2Proof.Claims Sys2Proof.Invariant

/-! ## Commands answer a next state (00_scope.md section 7) -/

/-- Settles O1: the step is defined so. -/
theorem stepRunsFrontCommand : Obligations.StepRunsFrontCommand := step_cons

/-- Every command but pin reset and the expiries acts once the expiries of the last tick are handled (log 3). -/
theorem exec_is_event {c : Instr} (hpin : c ≠ .pinReset) (hphase : c ≠ .phaseExpiry) (hguard : c ≠ .guardExpiry)
    (hdeadline : c ≠ .deadlineExpiry) : ∃ f, ∀ s, exec c s = event f s := by
  cases c with
  | pinReset => exact absurd rfl hpin
  | phaseExpiry => exact absurd rfl hphase
  | guardExpiry => exact absurd rfl hguard
  | deadlineExpiry => exact absurd rfl hdeadline
  | _ => exact ⟨_, fun _ => rfl⟩

@[simp] theorem countTick_pending (s : State) : (countTick s).pending = s.pending := by unfold countTick; split <;> rfl

@[simp] theorem endPulse_pending (s : State) : (endPulse s).pending = s.pending := rfl

@[simp] theorem syncArrival_pending (s : State) : (syncArrival s).pending = s.pending := by
  unfold syncArrival cutFrame
  (repeat' split) <;> simp

@[simp] theorem present_pending (q : Request) (s : State) : (present q s).pending = s.pending := by
  unfold present; split <;> rfl

@[simp] theorem refuseTaken_pending (k : IncidentKind) (p : Option Partition) (d : Half) (q : Taken) (s : State) :
    (refuseTaken k p d q s).pending = s.pending := rfl

@[simp] theorem passObserved_pending (q : Taken) (s : State) : (passObserved q s).pending = s.pending := by
  unfold passObserved
  split
  case h_1 => simp
  case h_2 p _ =>
    obtain ⟨u, hu, -⟩ := judged_cases p q s
    simp [hu]

@[simp] theorem admission_pending (q : Taken) (s : State) : (admission q s).pending = s.pending := by
  unfold admission
  (repeat' split) <;> rfl

@[simp] theorem takePresented_pending (s : State) : (takePresented s).pending = s.pending := by
  unfold takePresented handleTaken
  (repeat' split) <;> simp

@[simp] theorem releaseHead_pending (s : State) : (releaseHead s).pending = s.pending := by
  unfold releaseHead releaseFrom
  (repeat' split) <;> simp

@[simp] theorem deliverHead_pending (s : State) : (deliverHead s).pending = s.pending := rfl

@[simp] theorem accept_pending (s : State) : (accept s).pending = s.pending := by unfold accept; split <;> rfl

@[simp] theorem takeResponse_pending (r : Response) (s : State) : (takeResponse r s).pending = s.pending := by
  unfold takeResponse strayResponse lateResponse forward
  (repeat' split) <;> simp

@[simp] theorem arriveResponse_pending (r : Response) (s : State) : (arriveResponse r s).pending = s.pending := by
  unfold arriveResponse
  split <;> simp

@[simp] theorem drstAssert_pending (s : State) : (drstAssert s).pending = s.pending := by
  unfold drstAssert abortMemorySide
  (repeat' split) <;> rfl

@[simp] theorem drstDeassert_pending (s : State) : (drstDeassert s).pending = s.pending := rfl

@[simp] theorem endPinReset_pending (s : State) : (endPinReset s).pending = s.pending := by
  unfold endPinReset
  (repeat' split) <;> simp

@[simp] theorem finishExecution_pending (s : State) : (finishExecution s).pending = s.pending := by
  unfold finishExecution
  split
  case h_1 c _ => exact perform_pending c s
  all_goals rfl

@[simp] theorem carryOut_pending (c : LinkCommand) (s : State) : (carryOut c s).pending = s.pending :=
  perform_pending c s

@[simp] theorem runCommand_pending (c : LinkCommand) (s : State) : (runCommand c s).pending = s.pending := by
  unfold runCommand
  (repeat' split) <;> simp

@[simp] theorem csAssert_pending (s : State) : (csAssert s).pending = s.pending := by
  unfold csAssert
  (repeat' split) <;> simp

@[simp] theorem csDeassert_pending (mosi : List Bool) (s : State) : (csDeassert mosi s).pending = s.pending := by
  unfold csDeassert
  split <;> rfl

/-- Settles O2: each command's operation is total, and none of them has the queue among the fields it writes. -/
theorem everyCommandAnswersNext : Obligations.EveryCommandAnswersNext := by
  intro c s
  cases c with
  | pinReset => exact ⟨_, rfl, rfl⟩
  | phaseExpiry => exact ⟨_, rfl, by split <;> simp⟩
  | guardExpiry => exact ⟨_, rfl, by split <;> simp⟩
  | deadlineExpiry => exact ⟨_, rfl, ottReaction_pending s⟩
  | _ => exact ⟨_, rfl, by simp⟩

/-! ## Expiries handled before any other command (R3, R7, R123; logs 3, 5) -/

/-- An entry of the OTT once its deadline expiry, if any waits, is handled (R124). -/
def handled : OttEntry → OttEntry
  | .opened t 0 => .expired t
  | .opened t (n + 1) => .opened t (n + 1)
  | .free => .free
  | .expired t => .expired t

theorem handled_not_due (x : OttEntry) : (handled x).isDue = false := by
  match x with
  | .opened _ 0 | .opened _ (_ + 1) | .free | .expired _ => rfl

theorem handled_handled (x : OttEntry) : handled (handled x) = handled x := by
  match x with
  | .opened _ 0 | .opened _ (_ + 1) | .free | .expired _ => rfl

/-- The handling of one index changes its own entry alone. -/
theorem expireEntry_ott (s : State) (i j : OttIndex) :
    (expireEntry s i).ott[j] = if i = j then handled s.ott[i] else s.ott[j] := by
  unfold expireEntry
  split
  case h_1 t hi =>
    rw [hi]
    exact setAt_get ..
  all_goals
    rename_i hi
    rw [hi]
    split
    case isTrue hij => exact hij ▸ hi
    case isFalse => rfl

/-- The handling of a list of indices. -/
theorem foldl_expireEntry_ott (l : List OttIndex) (s : State) (j : OttIndex) :
    (l.foldl expireEntry s).ott[j] = if j ∈ l then handled s.ott[j] else s.ott[j] := by
  induction l generalizing s with
  | nil => simp
  | cons i l ih =>
    rw [List.foldl_cons, ih, expireEntry_ott]
    by_cases hij : i = j
    · subst hij
      by_cases hl : i ∈ l <;> simp [hl, handled_handled]
    · by_cases hl : j ∈ l <;> simp [hl, hij, Ne.symm hij]

/-- The OTT's reaction to a tick handles every entry (R124). -/
theorem ottReaction_ott (s : State) (i : OttIndex) : (ottReaction s).ott[i] = handled s.ott[i] := by
  rw [ottReaction, foldl_expireEntry_ott, if_pos (List.mem_finRange i)]

/-- A deadline expiry waits where an entry is due (R123). -/
theorem deadlineDue_iff (s : State) : deadlineDue s = true ↔ ∃ i : OttIndex, (s.ott[i]).isDue = true := by
  unfold deadlineDue
  rw [List.any_eq_true]
  constructor
  · rintro ⟨x, hx, hdue⟩
    obtain ⟨i, hi, rfl⟩ := List.getElem_of_mem hx
    exact ⟨⟨i, by simpa using hi⟩, by simpa using hdue⟩
  · rintro ⟨i, hdue⟩
    exact ⟨s.ott[i], by simp, hdue⟩

theorem ottReaction_not_due (s : State) : deadlineDue (ottReaction s) = false := by
  rw [Bool.eq_false_iff]
  intro hdue
  obtain ⟨i, hi⟩ := (deadlineDue_iff _).mp hdue
  rw [ottReaction_ott, handled_not_due] at hi
  cases hi

/-- A deadline expiry that waits is the OTT's alone. -/
theorem deadlineDue_congr {s t : State} (h : t.ott = s.ott) : deadlineDue t = deadlineDue s := by
  rw [deadlineDue, deadlineDue, h]

/-- An expiry of a phase or a guard that waits is the sequencer's alone. -/
theorem seqDue_congr {s t : State} (h : t.seq = s.seq) : phaseDue t = phaseDue s ∧ guardDue t = guardDue s := by
  rw [phaseDue, phaseDue, guardDue, guardDue, h]
  exact ⟨rfl, rfl⟩

theorem frameStart_state (c : Cause) (s : State) : (frameStart c s).seq.state = .running := by
  rw [Banks.frameStart_seq]
  rfl

/-- After a phase expiry no guard waits: the sequencer runs, or has just entered GAP (R8, R9). -/
theorem expirePhase_no_guard {s : State} (hrun : s.seq.state = .running) : guardDue (expirePhase s) = false := by
  cases hp : s.seq.phase with
  | none =>
    have hsame : expirePhase s = s := by simp [expirePhase, hp]
    simp [hsame, guardDue, hrun]
  | some p =>
    obtain ⟨n, -, -, he⟩ | ⟨-, ⟨-, he⟩ | ⟨-, he⟩⟩ := expirePhase_cases hp
    · simp [he, guardDue, hrun]
    · simp [he, guardDue, frameStart_state]
    · rw [he]
      cases hg : s.settings.syncGuard.toNat <;> simp [guardDue, enterGap, hg]

/-- A frame started under the laws has a first phase with ticks (R13, R33). -/
theorem frameStart_not_due {s : State} (h : BanksReady s.settings.alternation s.banks) (c : Cause) :
    phaseDue (frameStart c s) = false := by
  have hready := bankDecision_ready h
  have hticks := hready.ticks_pos (p := 0) hready.phaseCount_pos
  rw [Bool.eq_false_iff]
  intro hd
  obtain ⟨-, hzero⟩ := (phaseDue_iff _).mp hd
  rw [Banks.frameStart_seq] at hzero
  exact hticks hzero

/-- Once the sequencer has reacted to a tick, nothing of it waits (R7, R11). -/
theorem seqReaction_settles {s : State} (h : Inv s) :
    phaseDue (seqReaction s) = false ∧ guardDue (seqReaction s) = false := by
  unfold seqReaction
  split
  case isTrue hd =>
    obtain ⟨hrun, -⟩ := (phaseDue_iff s).mp hd
    have hready := banksReady_of_inv h (by simp [hrun])
    refine ⟨?_, expirePhase_no_guard hrun⟩
    obtain ⟨-, p, hp, -⟩ := running_phase h.sequencer hrun
    obtain ⟨n, -, hn, he⟩ | ⟨-, ⟨-, he⟩ | ⟨-, he⟩⟩ := expirePhase_cases hp
    · have hticks := hready.ticks_pos hn
      simp [he, phaseDue, hticks]
    · rw [he]
      exact frameStart_not_due hready _
    · simp [he, phaseDue, enterGap]
  case isFalse hphase =>
    split
    case isTrue hd =>
      obtain ⟨hgap, -⟩ := (guardDue_iff s).mp hd
      have hready := banksReady_of_inv h (by simp [hgap])
      exact ⟨frameStart_not_due (s := record _ s) hready _, by simp [expireGuard, guardDue, frameStart_state]⟩
    case isFalse hguard => exact ⟨by simpa using hphase, by simpa using hguard⟩

/-- The two blocks reacting in either order leave nothing waiting (R123). -/
theorem reactions_quiet {s : State} (h : Inv s) (hr : s.pins.rst = false) :
    quiet (ottReaction (seqReaction s)) = true ∧ quiet (seqReaction (ottReaction s)) = true := by
  obtain ⟨hphase, hguard⟩ := seqReaction_settles h
  obtain ⟨hphase', hguard'⟩ := seqReaction_settles (ottReaction_keeps_laws h hr)
  obtain ⟨hp, hg⟩ := seqDue_congr (ottReaction_seq (seqReaction s))
  have hd := deadlineDue_congr (seqReaction_ott (ottReaction s))
  exact ⟨quiet_iff.mpr ⟨hp.trans hphase, hg.trans hguard, ottReaction_not_due _⟩,
    quiet_iff.mpr ⟨hphase', hguard', hd.trans (ottReaction_not_due _)⟩⟩

/-- Once the expiries of a tick are handled none waits (R3, R7, R123). -/
theorem settle_quiet {s : State} (h : Inv s) : quiet (settle s) = true := by
  cases hr : s.pins.rst with
  | true =>
    have hquiet : quiet s = true := h.reset.1 hr ▸ pinReset_quiet s
    rw [settle_of_quiet hquiet]
    exact hquiet
  | false =>
    have hk := reactions_quiet (freeIndex_keeps_laws h (s.freeIndex + 1) hr) hr
    unfold settle
    split
    case isTrue hq => exact hq
    case isFalse =>
      split
      · split
        · exact hk.2
        · exact hk.1
      · exact (reactions_quiet h hr).1

/-- The sequencer's two expiry commands, one after the other, are its reaction to a tick (R7, R11). -/
theorem seqExpiries_exec (s : State) :
    ∃ a, exec .phaseExpiry s = .next a ∧ exec .guardExpiry a = .next (seqReaction s) := by
  refine ⟨_, rfl, ?_⟩
  unfold seqReaction
  split
  case isTrue hd =>
    have hguard := expirePhase_no_guard ((phaseDue_iff s).mp hd).1
    simp [exec, execGuardExpiry, hguard]
  case isFalse => rfl

/-- The state the settling leads to is that of the two blocks' reactions, in one of their orders. -/
theorem settle_cases (s : State) : ∃ k,
    settle s = ottReaction (seqReaction { s with freeIndex := k }) ∨
    settle s = seqReaction (ottReaction { s with freeIndex := k }) := by
  unfold settle
  split
  case isTrue hq =>
    obtain ⟨hp, hg, hd⟩ := quiet_iff.mp hq
    have hseq : seqReaction s = s := by simp [seqReaction, hp, hg]
    exact ⟨s.freeIndex, .inl (by rw [hseq, ottReaction_of_not_due hd])⟩
  case isFalse =>
    split
    · split
      · exact ⟨_, .inr rfl⟩
      · exact ⟨_, .inl rfl⟩
    · exact ⟨s.freeIndex, .inl rfl⟩

/-- Settles O3: what settling leaves is quiet, so that settling it again changes nothing; and it is the reaction of
the sequencer and that of the OTT, which are what the expiry commands do. -/
theorem expiriesHandledFirst : Obligations.ExpiriesHandledFirst := by
  refine ⟨fun c s h hpin hphase hguard hdeadline => ?_, fun s => ?_⟩
  · obtain ⟨f, hf⟩ := exec_is_event hpin hphase hguard hdeadline
    have hq := settle_quiet h
    refine ⟨hq, ?_⟩
    rw [hf, hf, event_of_quiet f hq]
    rfl
  · obtain ⟨k, hk | hk⟩ := settle_cases s
    · obtain ⟨a, ha, hb⟩ := seqExpiries_exec { s with freeIndex := k }
      exact ⟨k, a, _, .inl ⟨ha, hb, hk ▸ rfl⟩⟩
    · obtain ⟨b, ha, hb⟩ := seqExpiries_exec (ottReaction { s with freeIndex := k })
      exact ⟨k, _, b, .inr ⟨rfl, ha, hk ▸ hb⟩⟩

/-! ## REFCLK periods and ticks (R1, R14) -/

/-- The state some REFCLK periods into a tick period, the queue of commands empty. -/
def afterPeriods (k : Nat) (s : State) : State :=
  { s with divider := k, frameOutLeft := s.frameOutLeft - k }

/-- A REFCLK period within a tick period (R1, R14). -/
theorem refclk_afterPeriods {s : State} {k : Nat} (hr : s.pins.rst = false) (hk : k + 1 < tickPeriod s) :
    refclk (afterPeriods k s) = afterPeriods (k + 1) s := by
  have hlt : ¬ tickPeriod (afterPeriods k s) ≤ (afterPeriods k s).divider + 1 := Nat.not_le.mpr hk
  have hrst : (afterPeriods k s).pins.rst ≠ true := by simp [afterPeriods, hr]
  rw [refclk, if_neg hrst, if_neg hlt]
  rfl

/-- The last REFCLK period of a tick period brings the tick (R1). -/
theorem refclk_last {s : State} {k : Nat} (hr : s.pins.rst = false) (hk : tickPeriod s = k + 1) :
    refclk (afterPeriods k s) = countTick { s with frameOutLeft := s.frameOutLeft - tickPeriod s } := by
  have hle : tickPeriod (afterPeriods k s) ≤ (afterPeriods k s).divider + 1 := Nat.le_of_eq hk
  have hrst : (afterPeriods k s).pins.rst ≠ true := by simp [afterPeriods, hr]
  rw [refclk, if_neg hrst, if_pos hle, hk]
  simp [countTick, afterPeriods, hr, Nat.sub_sub]

/-- One more step of a run, at its end. -/
theorem run_succ_of_next {M : Host.Core} {k : Nat} {s t : M.State} (h : M.run k s = .next t) :
    M.run (k + 1) s = M.step t := by
  induction k generalizing s with
  | zero =>
    obtain rfl : s = t := by simpa [Host.Core.run] using h
    rw [Host.Core.run]
    cases hs : M.step s <;> rfl
  | succ k ih =>
    rw [Host.Core.run] at h ⊢
    cases hs : M.step s with
    | next u =>
      rw [hs] at h
      exact ih h
    | fault | refused =>
      rw [hs] at h
      cases h

/-- A step on an empty queue where nothing waits is a REFCLK period (log 11). -/
theorem step_afterPeriods {s : State} (hq : quiet s = true) (hp : s.pending = []) (k : Nat) :
    step (afterPeriods k s) = .next (refclk (afterPeriods k s)) := by
  have hquiet : quiet (afterPeriods k s) = true := hq
  have hpending : (afterPeriods k s).pending = [] := hp
  rw [step_idle hpending, settle_of_quiet hquiet]

/-- The periods of a tick period before its last count in the divider and run the pulse down (R1, R14). -/
theorem run_afterPeriods {s : State} (hs : Calm s) (hp : s.pending = []) (hd : s.divider = 0) {k : Nat}
    (hk : k < tickPeriod s) : Sys2Proof.core.run k s = .next (afterPeriods k s) := by
  obtain ⟨hq, hr⟩ := hs
  induction k with
  | zero =>
    have hzero : { s with divider := 0 } = s := by rw [← hd]
    exact congrArg Host.Outcome.next hzero.symm
  | succ k ih =>
    rw [run_succ_of_next (ih (by omega)), ← refclk_afterPeriods hr hk]
    exact step_afterPeriods hq hp k

/-- Settles O4: by induction on the periods of the tick, whose last brings it. -/
theorem refclkPeriodsPerTick : Obligations.RefclkPeriodsPerTick := by
  intro s hs hp hd
  have hperiod : (s.settings.prescale.val + 1) * 32 = tickPeriod s := rfl
  rw [hperiod]
  refine ⟨fun k hk => run_afterPeriods hs hp hd hk, ?_⟩
  obtain ⟨hq, hr⟩ := hs
  obtain ⟨k, hk⟩ : ∃ k, tickPeriod s = k + 1 := ⟨tickPeriod s - 1, by rw [tickPeriod]; omega⟩
  have hquiet : quiet { s with frameOutLeft := s.frameOutLeft - tickPeriod s } = true := hq
  have htick : exec .tick { s with frameOutLeft := s.frameOutLeft - tickPeriod s } =
      .next (countTick { s with frameOutLeft := s.frameOutLeft - tickPeriod s }) := event_of_quiet _ hquiet
  have hrun : Sys2Proof.core.run (tickPeriod s) s = step (afterPeriods k s) := by
    rw [hk]
    exact run_succ_of_next (run_afterPeriods ⟨hq, hr⟩ hp hd (by omega))
  rw [htick, ← refclk_last hr hk, ← step_afterPeriods hq hp k]
  exact hrun

/-- Settles O5: what a tick counts, state by state of the sequencer and entry by entry of the OTT. -/
theorem tickCounted : Obligations.TickCounted := by
  intro s hq
  have htick : exec .tick s = .next (countTick s) := event_of_quiet _ hq
  rw [htick]
  refine ⟨fun hr => by simp [countTick, hr], fun hr => ?_⟩
  have hott : mapAll OttEntry.countTick s.ott = Vector.ofFn fun i => match s.ott[i] with
      | .opened t n => .opened t (n - 1)
      | .free => .free
      | .expired t => .expired t := by
    unfold mapAll
    congr 1
  rw [countTick, if_neg (by simp [hr]), hott]
  rfl

/-! ## Phase and guard expiries (R8 to R11) -/

theorem exec_phaseExpiry_due {s : State} (hrun : s.seq.state = .running) (h0 : s.seq.ticksLeft = 0) :
    exec .phaseExpiry s = .next (expirePhase s) := by
  have hdue := (phaseDue_iff s).mpr ⟨hrun, h0⟩
  simp [exec, execPhaseExpiry, hdue]

theorem exec_guardExpiry_due {s : State} (hgap : s.seq.state = .gap) (h1 : 1 ≤ s.seq.guardInForce)
    (hreached : s.seq.guardInForce ≤ s.seq.gapElapsed) : exec .guardExpiry s = .next (expireGuard s) := by
  have hdue := (guardDue_iff s).mpr ⟨hgap, h1, hreached⟩
  simp [exec, execGuardExpiry, hdue]

/-- Settles O6: within the phase count the next phase, and after the last one in FOLLOW the gap. -/
theorem phaseExpiryWithoutFrameStart : Obligations.PhaseExpiryWithoutFrameStart := by
  intro s p hrun h0 hp
  rw [exec_phaseExpiry_due hrun h0]
  obtain ⟨m, hm, hin, he⟩ | ⟨hlast, ⟨hfree, he⟩ | ⟨hfollow, he⟩⟩ := expirePhase_cases hp
  · refine ⟨fun n hn _ => ?_, fun hle => by omega⟩
    obtain rfl : m = n := Fin.ext (hm.trans hn.symm)
    rw [he]
    rfl
  · exact ⟨fun n hn hlt => by omega, fun _ hf => by simp [hfree] at hf⟩
  · refine ⟨fun n hn hlt => by omega, fun _ _ => ?_⟩
    rw [he]
    rfl

/-- Settles O7: after the last phase in FREE the expiry is a frame start. -/
theorem lastPhaseStartsFrame : Obligations.LastPhaseStartsFrame := by
  intro s p hrun h0 hp hlast hfree
  refine ⟨?_, Banks.frameStart_begins .timed s⟩
  rw [exec_phaseExpiry_due hrun h0]
  obtain ⟨m, hm, hin, -⟩ | ⟨-, ⟨-, he⟩ | ⟨hfollow, -⟩⟩ := expirePhase_cases hp
  · omega
  · rw [he]
  · simp [hfree] at hfollow

/-- Where no entry is due no deadline expiry waits (R123). -/
theorem deadlineDue_of_no_dueEntries {s : State} (h : dueEntries s = []) : deadlineDue s = false := by
  rw [Bool.eq_false_iff]
  intro hdue
  obtain ⟨i, hi⟩ := (deadlineDue_iff s).mp hdue
  have hnone := List.filterMap_eq_nil_iff.mp h i (List.mem_finRange i)
  match hx : s.ott[i] with
  | .opened t 0 => simp [hx] at hnone
  | .opened _ (_ + 1) | .free | .expired _ => simp [hx, OttEntry.isDue] at hi

/-- Settles O9: none of the three expiries is then due. -/
theorem expiryNotDueChangesNothing : Obligations.ExpiryNotDueChangesNothing := by
  intro s
  refine ⟨fun h => ?_, fun h => ?_, fun h => ?_⟩
  · have hdue : phaseDue s = false := by simpa [phaseDue] using h
    simp [exec, execPhaseExpiry, hdue]
  · have hdue : guardDue s = false := by
      rw [Bool.eq_false_iff]
      exact fun hd => h ((guardDue_iff s).mp hd)
    simp [exec, execGuardExpiry, hdue]
  · exact congrArg Host.Outcome.next (ottReaction_of_not_due (deadlineDue_of_no_dueEntries h))

/-! ## Reactions that record and answer one by one (R102, R124) -/

/-- The responses of a fold whose every step answers once. -/
theorem foldl_returnQueue {α : Type} {f : State → α → State} {r : α → UpResponse}
    (hf : ∀ t x, (f t x).returnQueue = t.returnQueue ++ [r x]) (l : List α) (t : State) :
    (l.foldl f t).returnQueue = t.returnQueue ++ l.map r := by
  induction l generalizing t with
  | nil => simp
  | cons x l ih =>
    rw [List.foldl_cons, ih, hf]
    simp

/-- The incidents of a fold whose every step records once and leaves the sequencer. -/
theorem foldl_incidents {α : Type} {f : State → α → State} {i : α → Incident} (hseq : ∀ t x, (f t x).seq = t.seq)
    (hf : ∀ t x, (f t x).incidents = t.incidents.take (i x) (incidentFrame t) (shownPhase t)) (l : List α)
    (t : State) : (l.foldl f t).incidents =
      l.foldl (fun u x => u.take (i x) (incidentFrame t) (shownPhase t)) t.incidents := by
  induction l generalizing t with
  | nil => rfl
  | cons x l ih =>
    have hframe : incidentFrame (f t x) = incidentFrame t := by rw [incidentFrame, incidentFrame, hseq]
    have hphase : shownPhase (f t x) = shownPhase t := by rw [shownPhase, shownPhase, hseq]
    rw [List.foldl_cons, List.foldl_cons, ih, hframe, hphase, hf]

/-! ## The first record of a frame start (R11, R16) -/

/-- The record of the sequencer's own at the head of the Incident Queue, of a kind that no reaction to a frame start
records. -/
def HeadIs (r : IncidentRecord) (s : State) : Prop :=
  s.incidents.queue.head? = some r ∧ (r.kind = .syncMissed ∨ r.kind = .frameCut)

theorem matchesNewest_iff (u : IncidentUnit) (n : IncidentRecord) (i : Incident) (frame : Option Word32) :
    u.matchesNewest n i frame = true ↔
      n.kind = i.kind ∧ n.partition = i.partition ∧ n.requester = i.requester ∧ u.newestFrame = frame := by
  simp [IncidentUnit.matchesNewest, and_assoc]

/-- An incident of another kind leaves the oldest record as it is (R141 to R143). -/
theorem take_head {u : IncidentUnit} {r : IncidentRecord} (h : u.queue.head? = some r) {i : Incident}
    (hk : i.kind ≠ r.kind) (frame : Option Word32) (phase : Option ShownPhase) :
    (u.take i frame phase).queue.head? = some r := by
  obtain ⟨rest, hq⟩ : ∃ rest, u.queue = r :: rest := by
    cases hq : u.queue with
    | nil => simp [hq] at h
    | cons x rest =>
      rw [hq] at h
      cases h
      exact ⟨rest, rfl⟩
  have hadd : (u.addOrLose i frame phase).queue.head? = some r := by
    unfold IncidentUnit.addOrLose
    split <;> simp [hq]
  unfold IncidentUnit.take
  split
  case h_2 => exact hadd
  case h_1 n hn =>
    split
    case isFalse => exact hadd
    case isTrue hm =>
      have hkind : n.kind = i.kind := by
        obtain ⟨hkind, -⟩ := (matchesNewest_iff ..).mp hm
        exact hkind
      cases rest with
      | nil =>
        have hrn : r = n := by simpa [hq] using hn
        exact absurd (hrn ▸ hkind).symm hk
      | cons x rest => simp [IncidentUnit.coalesce, hq]

theorem record_head {s : State} {r : IncidentRecord} (h : HeadIs r s) {i : Incident} (hmissed : i.kind ≠ .syncMissed)
    (hcut : i.kind ≠ .frameCut) : HeadIs r (record i s) := by
  obtain ⟨hhead, hk⟩ := h
  refine ⟨take_head hhead ?_ _ _, hk⟩
  obtain hk | hk := hk
  · exact hk ▸ hmissed
  · exact hk ▸ hcut

theorem changeMode_head {s : State} {r : IncidentRecord} (h : HeadIs r s) (m : Mode) (target : Option Mode) :
    HeadIs r (changeMode m target s) := by
  unfold changeMode
  split
  case isTrue => exact h
  case isFalse => exact record_head h nofun nofun

theorem completeDrain_head {s : State} {r : IncidentRecord} (h : HeadIs r s) : HeadIs r (completeDrain s) := by
  unfold completeDrain
  split
  case isTrue => exact changeMode_head h _ _
  case isFalse => exact h

theorem modeReaction_head {s : State} {r : IncidentRecord} (h : HeadIs r s) : HeadIs r (modeReaction s) := by
  unfold modeReaction
  split
  case h_1 => exact h
  case h_2 m _ => exact changeMode_head h _ _

theorem bankReaction_head {s : State} {r : IncidentRecord} (h : HeadIs r s) (first : Bool) (a : SwitchAttempt) :
    HeadIs r (bankReaction first a s) := by
  cases a with
  | notDue => exact h
  | switched | declined => exact record_head h nofun nofun

theorem departExpired_head {s : State} {r : IncidentRecord} (h : HeadIs r s) (p : Partition) (d : Half)
    (e : HeldEntry) : HeadIs r (departExpired p d s e) := by
  have hrecorded : HeadIs r (record (Incident.ofRequest .holdExpired (some p) e.request d)
      (respond (UpResponse.bare e.request.requester e.request.tag .expired) (popHead p s))) :=
    record_head h nofun nofun
  exact completeDrain_head hrecorded

theorem holdReaction_head {s : State} {r : IncidentRecord} (h : HeadIs r s) : HeadIs r (holdReaction s) :=
  foldl_keeps (P := HeadIs r)
    (fun _ p ht => foldl_keeps (P := HeadIs r) (fun _ e hu => departExpired_head hu p _ e) _ ht) _ h

theorem inOrder_head {s : State} {r : IncidentRecord} (h : HeadIs r s) (o : ReactionOrder) (first : Bool)
    (a : SwitchAttempt) : HeadIs r (inOrder o (bankReaction first a) modeReaction holdReaction s) :=
  inOrder_keeps (P := HeadIs r) (fun _ ht => bankReaction_head ht first a) (fun _ ht => modeReaction_head ht)
    (fun _ ht => holdReaction_head ht) o h

/-- A record of the sequencer's that heads the Incident Queue still heads it when a frame has started. -/
theorem frameStart_head {s : State} {r : IncidentRecord} (h : HeadIs r s) (c : Cause) : HeadIs r (frameStart c s) := by
  obtain ⟨o, ho⟩ := Banks.frameStart_inOrder c s
  generalize (frameStart c s).seq = q, (frameStart c s).credit = x, (frameStart c s).freeIndex = k at ho
  have hbegun : HeadIs r { s with
      banks := (bankDecision s).2, seq := q, frameOutLeft := 64, credit := x, freeIndex := k } := h
  exact ho ▸ inOrder_head hbegun o _ _

/-- In an empty Incident Queue an incident with a detail alone makes the first record (R142). -/
theorem recorded_head {s : State} (hq : s.incidents.queue = []) (k : IncidentKind) (d : Half) :
    (recorded (plainIncident k d) s).incidents.queue.head? = some (plainRecord k d s) := by
  simp [recorded, IncidentUnit.take, IncidentUnit.addOrLose, hq, Config.incidentCapacity]
  rfl

/-- Settles O8: the record is made before the frame starts, and no reaction to the start makes one of its kind. -/
theorem guardExpiryStartsFrame : Obligations.GuardExpiryStartsFrame := by
  intro s hgap h1 hreached
  refine ⟨_, _, rfl, rfl, exec_guardExpiry_due hgap h1 hreached, Banks.frameStart_begins .guard _, fun hq => ?_⟩
  exact (frameStart_head ⟨recorded_head hq _ _, .inl rfl⟩ .guard).1

/-! ## SYNC_IN and the FRAME_OUT pulse (R14 to R17) -/

theorem syncArrival_running {s : State} (hrun : s.seq.state = .running) (hf : s.settings.syncMode = .follow) :
    syncArrival s = cutFrame s := by
  simp [syncArrival, hrun, hf]

theorem syncArrival_gap {s : State} (hgap : s.seq.state = .gap) (hf : s.settings.syncMode = .follow) :
    syncArrival s = frameStart .sync s := by
  simp [syncArrival, hgap, hf]

theorem syncArrival_ignored {s : State} (h : s.seq.state = .stopped ∨ s.settings.syncMode = .free) :
    syncArrival s = s := by
  unfold syncArrival
  obtain hstop | hfree := h
  · cases hm : s.settings.syncMode <;> simp [hstop]
  · simp [hfree]

/-- Settles O11: as for the guard, with FRAME_CUT. -/
theorem syncInCutsFrame : Obligations.SyncInCutsFrame := by
  intro s hquiet hrun hf
  refine ⟨_, _, rfl, rfl, ?_, Banks.frameStart_begins .sync _, fun hq => ?_⟩
  · exact (event_of_quiet _ hquiet).trans (congrArg _ (syncArrival_running hrun hf))
  · exact (frameStart_head ⟨recorded_head hq _ _, .inr rfl⟩ .sync).1

/-- Settles O10: by the sync mode and the sequencer's state. -/
theorem syncInIgnoredOrEndsGap : Obligations.SyncInIgnoredOrEndsGap := by
  intro s hquiet
  have hexec : exec .syncInArrival s = .next (syncArrival s) := event_of_quiet _ hquiet
  rw [hexec]
  exact ⟨fun h => by rw [syncArrival_ignored h],
    fun hgap hf => ⟨by rw [syncArrival_gap hgap hf], Banks.frameStart_begins .sync s⟩⟩

/-- Settles O12: the command sets the count of the pulse to 0. -/
theorem frameOutPulseEnds : Obligations.FrameOutPulseEnds :=
  fun _ hquiet => ⟨event_of_quiet _ hquiet, rfl⟩

end Sys2Proof.Ticks
end

section
/-! PROOFS. A frame start (Chapters 1 to 4, 6): Bank Control, Mode Control, the hold queues and credit. -/

namespace Sys2Proof.Frames

open Sys2Proof.Machine Sys2Proof.Safety Sys2Proof.Claims Sys2Proof.Invariant

/-! ## Bank Control's decision (R35, R36) -/

/-- A switch attempt is due at a later frame start, for a pending switch or a due alternation (R35). -/
theorem switchDue_iff (s : State) :
    switchDue s = true ↔ s.seq.firstPending = false ∧ (s.banks.pendingSwitch ≠ none ∨
      (s.settings.alternation = true ∧ s.banks.framesInBank = 2 ^ s.settings.exponent.val)) := by
  simp [switchDue, Option.isSome_iff_ne_none]

theorem bankDecision_notDue {s : State} (h : switchDue s = false) : bankDecision s = (.notDue, s.banks) := by
  unfold bankDecision
  split
  case h_1 => rfl
  case h_2 => simp [h]

theorem bankDecision_declined {s : State} {a : BankId} (ha : s.banks.active = some a) (h : switchDue s = true)
    (hb : (s.banks.get a.other).state ≠ .ready) :
    bankDecision s = (.declined a.other, { s.banks with pendingSwitch := none }) := by
  simp [bankDecision, ha, h, hb]

theorem bankDecision_switched {s : State} {a : BankId} (ha : s.banks.active = some a) (h : switchDue s = true)
    (hb : (s.banks.get a.other).state = .ready) :
    bankDecision s = (.switched a.other,
      { (s.banks.setState a .ready).setState a.other .active with pendingSwitch := none }) := by
  simp [bankDecision, ha, h, hb]

/-- The banks after a frame start: what Bank Control decided, and its reaction (R35, R36). -/
theorem frameStart_banks (c : Cause) (s : State) : (frameStart c s).banks =
    (bankReaction s.seq.firstPending (bankDecision s).1 { s with banks := (bankDecision s).2 }).banks := by
  rw [frameStart, Banks.frameReactions_banks]
  exact Banks.bankReaction_banks_congr _ _ rfl

/-- What the records of Bank Control's reaction carry (R36). -/
theorem bankReaction_spec (first : Bool) (b : BankId) (u : State) :
    bankReaction first .notDue u = { u with banks := { u.banks with
      framesInBank := if first = true then 1 else min (u.banks.framesInBank + 1) 65535 } } ∧
    bankReaction first (.switched b) u =
      recorded (plainIncident .bankSwitched (if b = .bank0 then 0 else 1))
        { u with banks := { u.banks with framesInBank := 1 } } ∧
    ((u.banks.get b).state = .editing → bankReaction first (.declined b) u =
      recorded (plainIncident .switchDeclined 0) { u with banks := { u.banks with framesInBank := 1 } }) := by
  refine ⟨rfl, by cases b <;> rfl, fun h => ?_⟩
  rw [bankReaction, h]
  rfl

/-- Settles O13: the attempt is due or not, and then the other bank is READY or not. -/
theorem bankDecisionAtFrameStart : Obligations.BankDecisionAtFrameStart := by
  refine ⟨fun c s a ha => ⟨fun hfirst => ?first, fun hlater hp halt => ?notDue, fun hlater hattempt => ?attempt⟩,
    bankReaction_spec⟩
  case first => exact ⟨Banks.frameStart_banks_first c hfirst, by rw [Banks.bankDecision_first hfirst]⟩
  case notDue =>
    have hdue : switchDue s = false := by
      rw [Bool.eq_false_iff, ne_eq, switchDue_iff]
      rintro ⟨-, hpending | hdue⟩
      · exact hpending hp
      · exact halt hdue
    have hd := bankDecision_notDue hdue
    exact ⟨by simp [frameStart_banks, hd, bankReaction, hlater], by rw [hd]⟩
  case attempt =>
    have hdue := (switchDue_iff s).mpr ⟨hlater, hattempt⟩
    refine ⟨fun hb => ?_, fun hb => ?_⟩
    · have hd := bankDecision_declined ha hdue hb
      exact ⟨by simp [frameStart_banks, hd, bankReaction], by rw [hd]⟩
    · have hd := bankDecision_switched ha hdue hb
      have hbanks := frameStart_banks c s
      rw [hd] at hbanks
      rw [hd, hbanks]
      cases a <;> exact ⟨rfl, rfl, rfl, rfl, rfl, rfl, rfl⟩

/-! ## Mode Control (R67, R70) -/

theorem modeChangedTo_eq (m : Mode) :
    Incident.plain .modeChanged ((modeCode m).zeroExtend 16) = modeChangedTo m := by cases m <;> rfl

theorem changeMode_incidents (m : Mode) (target : Option Mode) (s : State) :
    (changeMode m target s).incidents = if m = s.mode.inForce then s.incidents else
      s.incidents.take (modeChangedTo m) (incidentFrame s) (shownPhase s) := by
  unfold changeMode
  split
  case isTrue => rfl
  case isFalse => rw [modeChangedTo_eq]; rfl

/-- A change of mode reaches the mode and the Incident Unit alone (R70). -/
theorem changeMode_frame (m : Mode) (target : Option Mode) (s : State) :
    changeMode m target s = { s with
      mode := (changeMode m target s).mode, incidents := (changeMode m target s).incidents } := by
  unfold changeMode
  split <;> rfl

/-- The three items of Mode Control after its reaction to a frame start (R67). -/
def takenItems (c : ModeControl) (empty : Bool) : ModeControl :=
  match c.requested with
  | none => c
  | some r =>
    { inForce := (takenMode c.inForce r c.drainTarget empty).1, requested := none
      drainTarget := (takenMode c.inForce r c.drainTarget empty).2 }

theorem modeReaction_mode (s : State) : (modeReaction s).mode = takenItems s.mode (storeEmpty s) := by
  unfold modeReaction takenItems
  cases s.mode.requested with
  | none => rfl
  | some r => simp

/-- With a request Mode Control's reaction is a change of mode that clears it (R67). -/
theorem modeReaction_requested {s : State} {r : Mode} (h : s.mode.requested = some r) :
    ∃ m target, takenMode s.mode.inForce r s.mode.drainTarget (storeEmpty s) = (m, target) ∧
      (modeReaction s).mode = { inForce := m, requested := none, drainTarget := target } ∧
      modeReaction s = { s with mode := (modeReaction s).mode, incidents := (modeReaction s).incidents } ∧
      (modeReaction s).incidents = if m = s.mode.inForce then s.incidents else
        s.incidents.take (modeChangedTo m) (incidentFrame s) (shownPhase s) := by
  obtain ⟨m, target, htaken⟩ : ∃ m target,
      takenMode s.mode.inForce r s.mode.drainTarget (storeEmpty s) = (m, target) := ⟨_, _, rfl⟩
  refine ⟨m, target, htaken, by simp only [modeReaction_mode, takenItems, h, htaken], ?_, ?_⟩
  · rw [modeReaction, h]
    dsimp only
    rw [changeMode_frame]
  · rw [modeReaction, h]
    dsimp only
    rw [htaken]
    exact changeMode_incidents m target s

theorem takenMode_passing {m r : Mode} (target : Option Mode) (empty : Bool) (h : m = .straight ∨ m = .observe) :
    takenMode m r target empty = (r, none) := by
  obtain rfl | rfl := h <;> rfl

theorem takenMode_enforce (m : Mode) (target : Option Mode) (empty : Bool) :
    takenMode m .enforce target empty = (.enforce, none) := by cases m <;> rfl

theorem takenMode_of_enforce {r : Mode} (target : Option Mode) (empty : Bool) (h : r ≠ .enforce) :
    takenMode .enforce r target empty = if empty then (r, none) else (.draining, some r) := by
  cases r with
  | enforce => exact absurd rfl h
  | straight | observe | draining => rfl

theorem takenMode_of_draining {r : Mode} (target : Option Mode) (empty : Bool) (h : r ≠ .enforce)
    (hd : r ≠ .draining) : takenMode .draining r target empty = (.draining, some r) := by
  cases r with
  | enforce => exact absurd rfl h
  | draining => exact absurd rfl hd
  | straight | observe => rfl

/-- Settles O14: the table of R67 row by row. -/
theorem requestedModeTaken : Obligations.RequestedModeTaken := by
  intro s
  refine ⟨fun h => by rw [modeReaction, h], fun r h hdraining => ?_⟩
  obtain ⟨m, target, htaken, hmode, hframe, hinc⟩ := modeReaction_requested h
  have hitems : ∀ m' target', takenMode s.mode.inForce r s.mode.drainTarget (storeEmpty s) = (m', target') →
      (modeReaction s).mode.inForce = m' ∧ (modeReaction s).mode.drainTarget = target' := by
    intro m' target' h'
    obtain ⟨rfl, rfl⟩ := Prod.mk.inj (htaken.symm.trans h')
    exact ⟨by rw [hmode], by rw [hmode]⟩
  refine ⟨by rw [hmode], hframe, fun hpass => ?_, fun hr => ?_, fun he hr hall => ?_, fun he hr hheld => ?_,
    fun hd hr => ?_, fun hsame => ?_, fun hchange => ?_⟩
  · exact hitems _ _ (takenMode_passing _ _ hpass)
  · subst hr
    exact hitems _ _ (takenMode_enforce ..)
  · have hempty : storeEmpty s = true := storeEmpty_iff.mpr hall
    exact hitems _ _ (by rw [he, takenMode_of_enforce _ _ hr, if_pos hempty])
  · have hempty : ¬ storeEmpty s = true := fun hempty => by
      obtain ⟨p, hp⟩ := hheld
      exact hp (storeEmpty_iff.mp hempty p)
    exact hitems _ _ (by rw [he, takenMode_of_enforce _ _ hr, if_neg hempty])
  · exact hitems _ _ (by rw [hd, takenMode_of_draining _ _ hr hdraining])
  · rw [hmode] at hsame
    rw [hinc, if_pos hsame]
  · rw [hmode] at hchange ⊢
    rw [hinc, if_neg hchange]

/-! ## Departures by hold expiry (R99 to R102) -/

/-- One departure but for the end of a drain: the head of its queue leaves, is answered EXPIRED, recorded and
counted (R102). The incident is that of the frame start of `s`. -/
def departed (s t : State) (x : Partition × HeldEntry) : State :=
  count Stats.expire (some x.1)
    (record (expiryIncident s x)
      (respond (UpResponse.bare x.2.request.requester x.2.request.tag .expired) (popHead x.1 t)))

theorem leaving_eq (s : State) (p : Partition) :
    (leaving s p).1 = expiring s p ∧
    ((leaving s p).1 ≠ [] → (leaving s p).2 = if s.banks.inForce.parts[p].enabled = false then 1 else 0) := by
  unfold leaving expiring
  dsimp only
  split
  case isTrue => simp
  case isFalse h =>
    split
    · simp
    · exact ⟨rfl, fun _ => rfl⟩

/-- The entries of a queue that leave, of a state with the same banks, frame and queue. -/
theorem expiring_congr {s t : State} {p : Partition} (hb : t.banks.inForce = s.banks.inForce)
    (hf : t.seq.frame = s.seq.frame) (hh : t.hold[p] = s.hold[p]) : expiring t p = expiring s p := by
  rw [expiring, expiring, hb, hf, hh]

theorem departures_congr {s t : State} (hb : t.banks.inForce = s.banks.inForce)
    (hf : t.seq.frame = s.seq.frame) (hh : t.hold = s.hold) : departures t = departures s := by
  unfold departures
  congr 1
  funext p
  rw [expiring_congr hb hf (by rw [hh])]

/-- A departure of the model is one of these, and then perhaps the end of a drain (R69, R102). -/
theorem departExpired_eq {s t : State} {p : Partition} {d : Half} (e : HeldEntry)
    (hd : d = if s.banks.inForce.parts[p].enabled = false then 1 else 0) :
    departExpired p d t e = completeDrain (departed s t (p, e)) := by
  subst hd
  rfl

/-- One queue's part of the reaction, once queues before it have had theirs (R99). -/
theorem expireQueue_eq {s t : State} {p : Partition} (hb : t.banks = s.banks) (hq : t.seq = s.seq)
    (hh : t.hold[p] = s.hold[p]) : expireQueue t p =
      ((expiring s p).map fun e => (p, e)).foldl (fun u x => completeDrain (departed s u x)) t := by
  obtain ⟨hl, hd⟩ := leaving_eq t p
  rw [List.foldl_map, expireQueue]
  have hexp := expiring_congr (by rw [hb]) (by rw [hq]) hh
  cases hx : expiring s p with
  | nil => simp [hl, hexp, hx]
  | cons e l =>
    have hdet := hd (by simp [hl, hexp, hx])
    rw [hl, hexp, hx, hdet, hb]
    congr 1

/-- One queue's part of the reaction leaves the other queues. -/
theorem expireQueue_hold_other {p q : Partition} (h : p ≠ q) (s : State) :
    (expireQueue s p).hold[q] = s.hold[q] :=
  foldl_field (fun s => s.hold[q]) (fun s e => by rw [departExpired_hold, hold_popHead, if_neg h]) _ s

@[simp] theorem departed_hold (s t : State) (x : Partition × HeldEntry) (p : Partition) :
    (departed s t x).hold[p] = if x.1 = p then (t.hold[x.1]).tail else t.hold[p] := hold_popHead ..

@[simp] theorem departed_seq (s t : State) (x : Partition × HeldEntry) : (departed s t x).seq = t.seq := rfl

@[simp] theorem departed_mode (s t : State) (x : Partition × HeldEntry) : (departed s t x).mode = t.mode := rfl

/-- The hold queues' reaction is the departures of the frame start, one after the other (R99). -/
theorem holdReaction_eq_foldl (s : State) :
    holdReaction s = (departures s).foldl (fun u x => completeDrain (departed s u x)) s := by
  have key : ∀ (l : List Partition) (t : State), l.Nodup → t.banks = s.banks → t.seq = s.seq →
      (∀ p ∈ l, t.hold[p] = s.hold[p]) → l.foldl expireQueue t =
        (l.flatMap fun p => (expiring s p).map fun e => (p, e)).foldl
          (fun u x => completeDrain (departed s u x)) t := by
    intro l
    induction l with
    | nil => exact fun _ _ _ _ _ => rfl
    | cons p l ih =>
      intro t hl hb hq hh
      obtain ⟨hp, hl⟩ := List.nodup_cons.mp hl
      rw [List.foldl_cons, List.flatMap_cons, List.foldl_append,
        ← expireQueue_eq hb hq (hh p List.mem_cons_self)]
      refine ih _ hl (by simpa using hb) (by simpa using hq) fun q hq => ?_
      have hne : p ≠ q := fun h => hp (h ▸ hq)
      rw [expireQueue_hold_other hne]
      exact hh q (List.mem_cons_of_mem _ hq)
  exact key _ s (List.nodup_finRange 8) rfl rfl fun _ _ => rfl

/-! A drain can end at the last departure only: before it a queue still holds an entry (R69). -/

/-- The departures to come stand at the heads of their queues. -/
def AtHeads (l : List (Partition × HeldEntry)) (t : State) : Prop :=
  ∀ p : Partition, (l.filter fun x => x.1 = p).map Prod.snd <+: t.hold[p]

theorem AtHeads.head {x : Partition × HeldEntry} {l : List (Partition × HeldEntry)} {t : State}
    (h : AtHeads (x :: l) t) : t.hold[x.1] ≠ [] := by
  intro he
  have hx := h x.1
  rw [he] at hx
  simp at hx

theorem AtHeads.tail {x : Partition × HeldEntry} {l : List (Partition × HeldEntry)} {s t : State}
    (h : AtHeads (x :: l) t) : AtHeads l (departed s t x) := by
  intro p
  have hp := h p
  rw [departed_hold]
  split
  case isTrue hx =>
    subst hx
    obtain ⟨rest, hrest⟩ := hp
    rw [← hrest]
    simp
  case isFalse hx => simpa [hx] using hp

/-- While a departure is to come the store is not empty. -/
theorem AtHeads.storeEmpty {l : List (Partition × HeldEntry)} {t : State} (h : AtHeads l t) (hl : l ≠ []) :
    storeEmpty t = false := by
  obtain ⟨x, l, rfl⟩ := List.exists_cons_of_ne_nil hl
  rw [Bool.eq_false_iff]
  exact fun he => h.head (storeEmpty_iff.mp he x.1)

/-- The end of a drain is looked for once, after the last departure (R69). -/
theorem foldl_completeDrain {s t : State} {l : List (Partition × HeldEntry)} (h : AtHeads l t) (hl : l ≠ []) :
    l.foldl (fun u x => completeDrain (departed s u x)) t = completeDrain (l.foldl (departed s) t) := by
  induction l generalizing t with
  | nil => exact absurd rfl hl
  | cons x l ih =>
    rw [List.foldl_cons, List.foldl_cons]
    cases l with
    | nil => rfl
    | cons y l =>
      have htail := h.tail (s := s)
      rw [completeDrain_waits (htail.storeEmpty (List.cons_ne_nil y l)), ih htail (List.cons_ne_nil y l)]

/-- The departures of a list of distinct partitions that are of one of them. -/
theorem filter_departures (s : State) (p : Partition) :
    (departures s).filter (fun x => x.1 = p) = (expiring s p).map fun e => (p, e) := by
  have hqueue : ∀ q : Partition, ((expiring s q).map fun e => (q, e)).filter (fun x => x.1 = p) =
      if q = p then (expiring s p).map fun e => (p, e) else [] := by
    intro q
    split
    case isTrue h =>
      subst h
      refine List.filter_eq_self.mpr fun x hx => ?_
      obtain ⟨e, -, rfl⟩ := List.mem_map.mp hx
      exact decide_eq_true rfl
    case isFalse h =>
      refine List.filter_eq_nil_iff.mpr fun x hx => ?_
      obtain ⟨e, -, rfl⟩ := List.mem_map.mp hx
      exact fun hp => h (of_decide_eq_true hp)
  have key : ∀ l : List Partition, l.Nodup → p ∈ l →
      (l.flatMap fun q => if q = p then (expiring s p).map fun e => (p, e) else []) =
        (expiring s p).map fun e => (p, e) := by
    intro l
    induction l with
    | nil => simp
    | cons q l ih =>
      intro hl hp
      obtain ⟨hq, hl⟩ := List.nodup_cons.mp hl
      rw [List.flatMap_cons]
      split
      case isTrue h =>
        subst h
        have hrest : (l.flatMap fun r => if r = q then (expiring s q).map fun e => (q, e) else []) = [] := by
          rw [List.flatMap_eq_nil_iff]
          intro r hr
          exact if_neg fun h : r = q => hq (h ▸ hr)
        rw [hrest, List.append_nil]
      case isFalse h => exact ih hl (List.mem_of_ne_of_mem (Ne.symm h) hp)
  rw [departures, List.filter_flatMap]
  simp only [hqueue]
  exact key _ (List.nodup_finRange 8) (List.mem_finRange p)

theorem expiring_prefix (s : State) (p : Partition) : expiring s p <+: s.hold[p] :=
  (leaving_eq s p).1 ▸ leaving_prefix s p

theorem departures_atHeads (s : State) : AtHeads (departures s) s := by
  intro p
  have hsnd : Prod.snd ∘ (fun e : HeldEntry => (p, e)) = id := rfl
  rw [filter_departures, List.map_map, hsnd, List.map_id]
  exact expiring_prefix s p

/-- All departures of a frame start but for the end of a drain. -/
def allDeparted (s : State) : State := (departures s).foldl (departed s) s

/-- The hold queues' reaction: all departures, and the end of a drain where there is one (R69, R102). -/
theorem holdReaction_eq (s : State) :
    holdReaction s = if departures s = [] then s else completeDrain (allDeparted s) := by
  rw [holdReaction_eq_foldl]
  split
  case isTrue h => rw [h]; rfl
  case isFalse h => exact foldl_completeDrain (departures_atHeads s) h

/-! What a list of departures leaves, item by item. -/

theorem foldl_departed_hold (s : State) (l : List (Partition × HeldEntry)) (t : State) (p : Partition) :
    (l.foldl (departed s) t).hold[p] = t.hold[p].drop (l.filter fun x => x.1 = p).length := by
  induction l generalizing t with
  | nil => rfl
  | cons x l ih =>
    rw [List.foldl_cons, ih, departed_hold]
    by_cases hx : x.1 = p
    · subst hx
      simp
    · simp [hx]

theorem departed_stats (s t : State) (x : Partition × HeldEntry) (p : Partition) :
    (departed s t x).stats[p] = if x.1 = p then t.stats[x.1].expire else t.stats[p] := setAt_get ..

theorem foldl_departed_stats (s : State) (l : List (Partition × HeldEntry)) (t : State) (p : Partition) :
    (l.foldl (departed s) t).stats[p] = { t.stats[p] with
      holdExpired := t.stats[p].holdExpired + BitVec.ofNat 32 (l.filter fun x => x.1 = p).length } := by
  induction l generalizing t with
  | nil => simp
  | cons x l ih =>
    rw [List.foldl_cons, ih, departed_stats]
    by_cases hx : x.1 = p
    · subst hx
      simp [Stats.expire, BitVec.add_assoc, BitVec.ofNat_add, BitVec.add_comm 1#32]
    · simp [hx]

theorem foldl_departed_frame (s : State) (l : List (Partition × HeldEntry)) (t : State) :
    l.foldl (departed s) t = { t with
      hold := (l.foldl (departed s) t).hold, returnQueue := (l.foldl (departed s) t).returnQueue
      stats := (l.foldl (departed s) t).stats, incidents := (l.foldl (departed s) t).incidents } := by
  induction l generalizing t with
  | nil => rfl
  | cons x l ih =>
    rw [List.foldl_cons]
    exact ih (departed s t x)

/-! ## The hold queues' reaction (R69, R99 to R102, R140) -/

theorem allDeparted_hold (s : State) (p : Partition) :
    (allDeparted s).hold[p] = s.hold[p].drop (expiring s p).length := by
  rw [allDeparted, foldl_departed_hold, filter_departures, List.length_map]

theorem allDeparted_stats (s : State) (p : Partition) : (allDeparted s).stats[p] = { s.stats[p] with
    holdExpired := s.stats[p].holdExpired + BitVec.ofNat 32 (expiring s p).length } := by
  rw [allDeparted, foldl_departed_stats, filter_departures, List.length_map]

/-- The departures reach the queues, the responses, the counters and the incidents (R102). -/
theorem allDeparted_frame (s : State) : allDeparted s = { s with
    hold := (allDeparted s).hold, returnQueue := (allDeparted s).returnQueue
    stats := (allDeparted s).stats, incidents := expiriesRecorded s } := by
  have hinc : expiriesRecorded s = (allDeparted s).incidents :=
    (Ticks.foldl_incidents (f := departed s) (i := expiryIncident s) (fun _ _ => rfl)
      (fun _ _ => rfl) (departures s) s).symm
  rw [hinc]
  exact foldl_departed_frame s _ s

@[simp] theorem allDeparted_mode (s : State) : (allDeparted s).mode = s.mode := by rw [allDeparted_frame]

theorem allDeparted_of_none {s : State} (h : departures s = []) : allDeparted s = s := by rw [allDeparted, h]; rfl

/-- What the end of a drain keeps, the reaction keeps as the departures left it. -/
theorem holdReaction_field {α : Type} (g : State → α) (hg : ∀ s, g (completeDrain s) = g s) (s : State) :
    g (holdReaction s) = g (allDeparted s) := by
  rw [holdReaction_eq]
  split
  case isTrue h => rw [allDeparted_of_none h]
  case isFalse => exact hg _

/-- Without the end of a drain the reaction is the departures. -/
theorem holdReaction_goes_on {s : State} (h : ¬ (s.mode.inForce = .draining ∧ departures s ≠ [] ∧
    ∀ p : Partition, (holdReaction s).hold[p] = [])) : holdReaction s = allDeparted s := by
  rw [holdReaction_field State.hold completeDrain_hold] at h
  rw [holdReaction_eq]
  split
  case isTrue hd => rw [allDeparted_of_none hd]
  case isFalse hd =>
    by_cases hm : s.mode.inForce = .draining
    · refine completeDrain_waits ?_
      rw [Bool.eq_false_iff]
      exact fun he => h ⟨hm, hd, storeEmpty_iff.mp he⟩
    · exact completeDrain_other (by rwa [allDeparted_mode])

/-- With the last entry of a drain gone, its target comes into force after the departures (R69, R140). -/
theorem holdReaction_ends {s : State} {m : Mode} (h : s.mode.inForce = .draining) (hd : departures s ≠ [])
    (he : ∀ p : Partition, (holdReaction s).hold[p] = []) (ht : s.mode.drainTarget = some m) (hm : m ≠ .draining) :
    holdReaction s = drainEnded m (allDeparted s) := by
  rw [holdReaction_field State.hold completeDrain_hold] at he
  rw [holdReaction_eq, if_neg hd, completeDrain_ends (by rw [allDeparted_mode, h]) (storeEmpty_iff.mpr he)
    (by rw [allDeparted_mode, ht]) hm, modeChangedTo_eq]
  rfl

/-- Settles O16: the reaction is the departures in their order, a drain ending at the last of them only. -/
theorem holdExpiryAtFrameStart : Obligations.HoldExpiryAtFrameStart := by
  intro s
  have hhold := holdReaction_field State.hold completeDrain_hold s
  have hqueue := holdReaction_field State.returnQueue completeDrain_returnQueue s
  have hstats := holdReaction_field State.stats completeDrain_stats s
  have hall : allDeparted s = { s with
      hold := (holdReaction s).hold, returnQueue := (holdReaction s).returnQueue
      stats := (holdReaction s).stats, incidents := expiriesRecorded s } := by
    rw [hhold, hqueue, hstats]
    exact allDeparted_frame s
  refine ⟨fun p => ?_, ?_, fun p => ?_, fun h => ?_, fun m h hd he ht hm => ?_⟩
  · rw [hhold]
    exact allDeparted_hold s p
  · rw [hqueue]
    exact Ticks.foldl_returnQueue (fun _ _ => rfl) (departures s) s
  · rw [hstats]
    exact allDeparted_stats s p
  · rw [← hall]
    exact holdReaction_goes_on h
  · rw [← hall]
    exact holdReaction_ends h hd he ht hm

/-! ## The mode in every order of the reactions (R68) -/

/-- The last held entry leaves at this frame start. -/
def LastLeaves (s : State) : Prop := departures s ≠ [] ∧ storeEmpty (allDeparted s) = true

/-- The three items of Mode Control after the hold queues' reaction (R69). -/
def endedItems (c : ModeControl) : ModeControl :=
  if c.inForce = .draining then { c with inForce := c.drainTarget.getD .straight, drainTarget := none } else c

theorem holdReaction_mode_last {s : State} (h : LastLeaves s) : (holdReaction s).mode = endedItems s.mode := by
  obtain ⟨hd, he⟩ := h
  rw [holdReaction_eq, if_neg hd, completeDrain, endedItems]
  by_cases hm : s.mode.inForce = .draining <;> simp [hm, he]

theorem holdReaction_mode_other {s : State} (h : ¬ LastLeaves s) : (holdReaction s).mode = s.mode := by
  rw [holdReaction_eq]
  split
  case isTrue => rfl
  case isFalse hd =>
    have he : storeEmpty (allDeparted s) = false := by
      rw [Bool.eq_false_iff]
      exact fun he => h ⟨hd, he⟩
    rw [completeDrain_waits he, allDeparted_mode]

/-- The store is empty after the reaction where it was before, or where the last entry has left. -/
theorem storeEmpty_holdReaction (s : State) :
    storeEmpty (holdReaction s) = true ↔ storeEmpty s = true ∨ LastLeaves s := by
  have hkept : storeEmpty (holdReaction s) = storeEmpty (allDeparted s) :=
    holdReaction_field storeEmpty (fun s => by rw [storeEmpty, storeEmpty, completeDrain_hold]) s
  rw [hkept, LastLeaves]
  by_cases hd : departures s = []
  · simp [hd, allDeparted_of_none]
  · have hheld : storeEmpty s = false := (departures_atHeads s).storeEmpty hd
    simp [hd, hheld]

/-- What the reactions to a frame start read of each other: the mode, the queues, the bank in force and the frame. -/
structure SameView (s t : State) : Prop where
  mode : t.mode = s.mode
  hold : t.hold = s.hold
  inForce : t.banks.inForce = s.banks.inForce
  frame : t.seq.frame = s.seq.frame

theorem SameView.refl (s : State) : SameView s s := ⟨rfl, rfl, rfl, rfl⟩

theorem SameView.storeEmpty {s t : State} (h : SameView s t) : storeEmpty t = storeEmpty s := by
  rw [Machine.storeEmpty, Machine.storeEmpty, h.hold]

/-- Bank Control's reaction shows nothing to the other two (log 4). -/
theorem SameView.bankReaction {s t : State} (h : SameView s t) (first : Bool) (a : SwitchAttempt) :
    SameView s (bankReaction first a t) := by
  obtain ⟨hmode, hhold, hbank, hframe⟩ := h
  refine ⟨by simp [hmode], by simp [hhold], ?_, by simp [hframe]⟩
  rw [← hbank]
  cases a <;> rfl

theorem SameView.modeReaction {s t : State} (h : SameView s t) : SameView (modeReaction s) (modeReaction t) := by
  have hempty := h.storeEmpty
  obtain ⟨hmode, hhold, hbank, hframe⟩ := h
  exact ⟨by rw [modeReaction_mode, modeReaction_mode, hmode, hempty], by simp [hhold], by simp [hbank],
    by simp [hframe]⟩

/-- A request that Mode Control takes is not seen by the departures. -/
theorem departs_congr {s t : State} (hbank : t.banks.inForce = s.banks.inForce) (hframe : t.seq.frame = s.seq.frame)
    (hhold : t.hold = s.hold) : (allDeparted t).hold = (allDeparted s).hold ∧ (LastLeaves t ↔ LastLeaves s) := by
  have hall : (allDeparted t).hold = (allDeparted s).hold := by
    refine table_ext fun p => ?_
    rw [allDeparted_hold, allDeparted_hold, expiring_congr hbank hframe (by rw [hhold]), hhold]
  refine ⟨hall, ?_⟩
  rw [LastLeaves, LastLeaves, departures_congr hbank hframe hhold, storeEmpty, storeEmpty, hall]

theorem SameView.holdReaction {s t : State} (h : SameView s t) : SameView (holdReaction s) (holdReaction t) := by
  obtain ⟨hmode, hhold, hbank, hframe⟩ := h
  obtain ⟨hall, hlast⟩ := departs_congr hbank hframe hhold
  refine ⟨?_, ?_, by simp [hbank], by simp [hframe]⟩
  · by_cases hl : LastLeaves s
    · rw [holdReaction_mode_last hl, holdReaction_mode_last (hlast.mpr hl), hmode]
    · rw [holdReaction_mode_other hl, holdReaction_mode_other (mt hlast.mp hl), hmode]
  · rw [holdReaction_field State.hold completeDrain_hold, holdReaction_field State.hold completeDrain_hold, hall]

/-- A drain that ends at this frame start ends in the mode that a request taken at it names, whichever reaction
comes first (R68). -/
theorem taken_after_drain {c : ModeControl} (hm : c.inForce = .enforce ∨ c.inForce = .draining)
    (ht : c.drainTarget ≠ some .enforce ∧ c.drainTarget ≠ some .draining) (hr : c.requested ≠ some .draining) :
    endedItems (takenItems c false) = takenItems (endedItems c) true := by
  obtain ⟨m, r, t⟩ := c
  obtain ⟨hte, htd⟩ := ht
  obtain rfl | rfl := hm
  · match r with
    | none | some .straight | some .observe | some .enforce => rfl
    | some .draining => exact absurd rfl hr
  · match r, t with
    | some .draining, _ => exact absurd rfl hr
    | _, some .enforce => exact absurd rfl hte
    | _, some .draining => exact absurd rfl htd
    | none, none | none, some .straight | none, some .observe => rfl
    | some .straight, none | some .straight, some .straight | some .straight, some .observe => rfl
    | some .observe, none | some .observe, some .straight | some .observe, some .observe => rfl
    | some .enforce, none | some .enforce, some .straight | some .enforce, some .observe => rfl

/-- Mode Control and the hold queues leave one mode in either order (R68). -/
theorem mode_commutes {s : State} (h : ModeLaw s) :
    (modeReaction (holdReaction s)).mode = (holdReaction (modeReaction s)).mode := by
  obtain ⟨-, htarget, hrequest, -, -, hpasses⟩ := h
  obtain ⟨-, hlast⟩ := departs_congr (s := s) (t := modeReaction s) (by simp) (by simp) (by simp)
  have hafter := storeEmpty_holdReaction s
  rw [modeReaction_mode]
  by_cases hl : LastLeaves s
  · have hheld : storeEmpty s = false := (departures_atHeads s).storeEmpty hl.1
    have hm : s.mode.inForce = .enforce ∨ s.mode.inForce = .draining := by
      cases hm : s.mode.inForce with
      | enforce | draining => simp
      | straight | observe => simp [hpasses (by simp [hm, Mode.passes])] at hheld
    rw [holdReaction_mode_last hl, holdReaction_mode_last (hlast.mpr hl), modeReaction_mode, hheld,
      hafter.mpr (.inr hl), taken_after_drain hm htarget hrequest]
  · have hsame : storeEmpty (holdReaction s) = storeEmpty s := by
      rw [Bool.eq_iff_iff, hafter, or_iff_left hl]
    rw [holdReaction_mode_other hl, holdReaction_mode_other (mt hlast.mp hl), modeReaction_mode, hsame]

/-- The mode after the three reactions is that after Mode Control's and then the hold queues' (R68). -/
theorem inOrder_mode (o : ReactionOrder) (first : Bool) (a : SwitchAttempt) {s : State} (h : ModeLaw s) :
    (inOrder o (bankReaction first a) modeReaction holdReaction s).mode = (holdReaction (modeReaction s)).mode := by
  have hrefl := SameView.refl s
  have hbank := hrefl.bankReaction first a
  cases o with
  | bankModeHold => rw [inOrder]; exact hbank.modeReaction.holdReaction.mode
  | bankHoldMode => rw [inOrder]; exact hbank.holdReaction.modeReaction.mode.trans (mode_commutes h)
  | modeBankHold => rw [inOrder]; exact (hrefl.modeReaction.bankReaction first a).holdReaction.mode
  | modeHoldBank => rw [inOrder]; exact (hrefl.modeReaction.holdReaction.bankReaction first a).mode
  | holdBankMode =>
    rw [inOrder]
    exact (hrefl.holdReaction.bankReaction first a).modeReaction.mode.trans (mode_commutes h)
  | holdModeBank =>
    rw [inOrder]
    exact (hrefl.holdReaction.modeReaction.bankReaction first a).mode.trans (mode_commutes h)

/-- Settles O15: Bank Control's reaction is not seen by the other two, and those commute on the mode. -/
theorem modeSameInEveryOrder : Obligations.ModeSameInEveryOrder :=
  fun o o' first a _ h => (inOrder_mode o first a h).trans (inOrder_mode o' first a h).symm

/-! ## Credit (R55) -/

/-- What a refill grants, with the accumulator it leaves, in eighths of a beat (R48). -/
theorem refill_eighths (c : Credit) {r : PartRecord} (h : r.enabled = true) :
    8 * (c.refill r).granted + (c.refill r).fraction.val =
      8 * r.budgetBase.val + r.budgetFraction.val + c.fraction.val := by
  rw [Credit.refill, if_pos h]
  split <;> dsimp only <;> omega

/-- What `n` refills grant together, in eighths of a beat. -/
theorem refills_eighths (c : Credit) {r : PartRecord} (h : r.enabled = true) (n : Nat) :
    8 * ((List.range n).map fun k => (Nat.repeat (fun x : Credit => x.refill r) (k + 1) c).granted).sum +
      (Nat.repeat (fun x : Credit => x.refill r) n c).fraction.val =
      n * (8 * r.budgetBase.val + r.budgetFraction.val) + c.fraction.val := by
  induction n with
  | zero => simp [Nat.repeat]
  | succ n ih =>
    have hstep := refill_eighths (Nat.repeat (fun x : Credit => x.refill r) n c) h
    rw [List.range_succ, List.map_append, List.sum_append, Nat.succ_mul n]
    simp only [List.map_cons, List.map_nil, List.sum_cons, List.sum_nil, Nat.repeat] at *
    omega

/-- Settles O17: eight refills grant whole beats, since the accumulator before and after is below 8. -/
theorem eightRefillsGrantFraction : Obligations.EightRefillsGrantFraction := by
  intro c r h
  have hsum := refills_eighths c h 8
  generalize Nat.repeat (fun x : Credit => x.refill r) 8 c = c' at *
  have hlt := c.fraction.isLt
  have hlt' := c'.fraction.isLt
  exact ⟨by omega, Fin.ext (by omega)⟩

end Sys2Proof.Frames
end

section
/-! PROOFS. The requester side (Chapters 5 to 7): arrival, taking, admission, release and delivery. -/

namespace Sys2Proof.Requests

open Sys2Proof.Machine Sys2Proof.Safety Sys2Proof.Claims Sys2Proof.Path Sys2Proof.Invariant

/-! ## The handshakes of the Requester Port (R73, R85) -/

/-- Settles O18: a request is put where none is presented, and the head of the Return Queue taken where there is one. -/
theorem requesterPortHandshakes : Obligations.RequesterPortHandshakes := by
  intro s q hquiet
  have harrival : exec (.requestArrival q) s = .next (present q s) := event_of_quiet _ hquiet
  have hdelivery : exec .responseDelivery s = .next (deliverHead s) := event_of_quiet _ hquiet
  rw [harrival, hdelivery]
  refine ⟨fun h => by simp [present, h], fun h => ?_, fun r rest h => by simp [deliverHead, h], fun h => ?_⟩
  · obtain ⟨first, hfirst⟩ := Option.ne_none_iff_exists'.mp h
    simp [present, hfirst]
  · have hsame : deliverHead s = s := by rw [deliverHead, h, List.tail_nil, ← h]
    rw [hsame]

/-! ## The conditions of a taking (R75) -/

theorem slotReady_iff_free (s : State) :
    slotReady s = true ↔ s.offer = none ∧ (∃ i : OttIndex, s.ott[i] = .free) ∧ s.pins.drst = false := by
  rw [slotReady_iff, ← lowestFree_isSome, Option.isSome_iff_exists]

theorem passes_iff (m : Mode) : m.passes = true ↔ m = .straight ∨ m = .observe := by
  cases m <;> simp [Mode.passes]

theorem releases_iff (m : Mode) : m.releases = true ↔ m = .enforce ∨ m = .draining := by
  cases m <;> simp [Mode.releases]

theorem canTake_iff_takeable (s : State) : canTake s = true ↔ Takeable s := by
  rw [canTake_iff, passes_iff, slotReady_iff_free]
  rfl

theorem takePresented_waits {s : State} (h : s.presented = none ∨ ¬ Takeable s) : takePresented s = s := by
  unfold takePresented
  split
  case h_1 => rfl
  case h_2 q hq =>
    have hcan : canTake s ≠ true := fun hcan => by
      obtain hnone | hwait := h
      · simp [hq] at hnone
      · exact hwait ((canTake_iff_takeable s).mp hcan)
    rw [if_neg hcan]

/-- A taking whose conditions hold takes the presented request (R75). -/
theorem exec_taking {s : State} {q : Request} (hquiet : quiet s = true) (hq : s.presented = some q)
    (h : Takeable s) : exec .taking s = .next (handleTaken (takenOf q) { s with presented := none }) := by
  have hexec : exec .taking s = .next (takePresented s) := event_of_quiet _ hquiet
  rw [hexec, takePresented, hq]
  exact congrArg _ (if_pos ((canTake_iff_takeable s).mpr h))

/-! ## The operations of the model and those of the statements -/

/-- A refusal with a partition, as the statements write it (R77, R92). -/
theorem refuseTaken_some (k : IncidentKind) (p : Partition) (d : Half) (q : Taken) (s : State) :
    refuseTaken k (some p) d q s = refusedOne p (answered q.requester q.tag .refused
      (recorded { kind := k, partition := some p, requester := some q.requester, tag := some q.tag
                  addr := some q.addr, detail := d } s)) := rfl

/-- A refusal without one. -/
theorem refuseTaken_none (k : IncidentKind) (d : Half) (q : Taken) (s : State) :
    refuseTaken k none d q s = answered q.requester q.tag .refused
      (recorded { kind := k, partition := none, requester := some q.requester, tag := some q.tag
                  addr := some q.addr, detail := d } s) := rfl

/-- An opening at the lowest FREE index (R74, R121). -/
theorem openEntry_lowest {s : State} {i : OttIndex} (h : LowestFree s i) (q : Taken) (p : Option Partition) :
    openEntry q p s = opened i q p s := openEntry_at q p (lowestFree_eq_some.mpr h)

theorem charge_eq_chargedCredit (c : Credit) (n : Nat) : c.charge n = chargedCredit c n := by
  unfold Credit.charge chargedCredit
  by_cases h : c.remaining - (n : Int) < -65536
  · rw [if_pos h, if_neg (Int.not_le.mpr h)]
  · rw [if_neg h, if_pos (Int.not_lt.mp h)]

theorem charge_eq_chargedTo (p : Partition) (n : Nat) (s : State) : charge p n s = chargedTo p n s := by
  rw [charge, chargedTo, charge_eq_chargedCredit]
  rfl

/-! ## Taking (R76 to R81, R92 to R96) -/

theorem handleTaken_duplicate {q : Taken} {s : State} (h : (q.requester, q.tag) ∈ liveKeys s) :
    handleTaken q s = refuseTaken .duplicateTag (duplicatePartition q s) 0 q s := by
  rw [handleTaken, if_pos ((liveTag_iff s _ _).mpr h)]

theorem handleTaken_straight {q : Taken} {s : State} (h : (q.requester, q.tag) ∉ liveKeys s)
    (hm : s.mode.inForce = .straight) : handleTaken q s = openEntry q none s := by
  rw [handleTaken, if_neg (mt (liveTag_iff s _ _).mp h), hm]

theorem handleTaken_observe {q : Taken} {s : State} (h : (q.requester, q.tag) ∉ liveKeys s)
    (hm : s.mode.inForce = .observe) : handleTaken q s = passObserved q s := by
  rw [handleTaken, if_neg (mt (liveTag_iff s _ _).mp h), hm]

theorem handleTaken_enforce {q : Taken} {s : State} (h : (q.requester, q.tag) ∉ liveKeys s)
    (hm : s.mode.inForce = .enforce) : handleTaken q s = admission q s := by
  rw [handleTaken, if_neg (mt (liveTag_iff s _ _).mp h), hm]

/-- Outside DRAINING a duplicate's record carries what classification found, in STRAIGHT nothing (R77). -/
theorem duplicatePartition_eq {s : State} (q : Taken) (h : s.mode.inForce ≠ .draining) :
    duplicatePartition q s =
      if s.mode.inForce = .straight then none else s.banks.inForce.map[q.requester] := by
  unfold duplicatePartition
  cases hm : s.mode.inForce with
  | straight | observe | enforce => rfl
  | draining => exact absurd hm h

/-- Settles O20: the refusal of a duplicate, with its partition or without one. -/
theorem takingRefusesDuplicate : Obligations.TakingRefusesDuplicate := by
  intro s q hquiet hq htake hlive
  obtain ⟨-, -, hdraining, -⟩ := id htake
  refine ⟨_, rfl, ?_⟩
  have hpart : duplicatePartition (takenOf q) { s with presented := none } =
      if s.mode.inForce = .straight then none else s.banks.inForce.map[q.requester] :=
    duplicatePartition_eq (s := { s with presented := none }) (takenOf q) hdraining
  rw [exec_taking hquiet hq htake, handleTaken_duplicate (s := { s with presented := none }) hlive, hpart]
  generalize (if s.mode.inForce = .straight then none else s.banks.inForce.map[q.requester]) = cls
  cases cls <;> rfl

/-- Settles O21: a pass in STRAIGHT is the opening at the lowest FREE index. -/
theorem takingPassesInStraight : Obligations.TakingPassesInStraight := by
  intro s q i hquiet hq htake hm hlive hfree
  rw [exec_taking hquiet hq htake, handleTaken_straight (s := { s with presented := none }) hlive hm,
    openEntry_lowest (s := { s with presented := none }) hfree]

/-- The window judgement as the statements write it (R81). -/
theorem judgeWindow_eq (p : Partition) (q : Taken) (s : State) :
    judgeWindow p q s = if windowOpen s p = true then s else recorded
      { kind := .outOfWindow, partition := some p, requester := some q.requester, tag := some q.tag
        addr := some q.addr, detail := BitVec.ofNat 16 (q.lenLess1.val + 1) } s := rfl

/-- The budget judgement as the statements write it (R81, R53). -/
theorem judgeBudget_eq (p : Partition) (q : Taken) (s : State) :
    judgeBudget p q s = if ((q.lenLess1.val + 1 : Nat) : Int) ≤ s.credit[p].remaining then s else recorded
      { kind := .overBudget, partition := some p, requester := some q.requester, tag := some q.tag
        addr := some q.addr, detail := BitVec.ofInt 16 (max (-32768) s.credit[p].remaining) } s := by
  unfold judgeBudget
  by_cases h : ((q.lenLess1.val + 1 : Nat) : Int) ≤ s.credit[p].remaining
  · exact (if_neg (Int.not_lt.mpr h)).trans (if_pos h).symm
  · exact (if_pos (Int.not_le.mp h)).trans (if_neg h).symm

theorem passObserved_unmapped {q : Taken} {s : State} (h : s.banks.inForce.map[q.requester] = none) :
    passObserved q s = openEntry q none (record (Incident.ofRequest .unmapped none q 0) s) := by
  have hc : classify s q.requester = none := h
  rw [passObserved, hc]

theorem passObserved_mapped {q : Taken} {s : State} {p : Partition} (h : s.banks.inForce.map[q.requester] = some p) :
    passObserved q s = openEntry q (some p) (charge p q.length (judgeBudget p q (judgeWindow p q s))) := by
  have hc : classify s q.requester = some p := h
  rw [passObserved, hc]

/-- Settles O22: unmapped, the record and the opening; mapped, the two judgements, the charge and the opening. -/
theorem takingPassesInObserve : Obligations.TakingPassesInObserve := by
  intro s q i hquiet hq htake hm hlive hfree
  rw [exec_taking hquiet hq htake, handleTaken_observe (s := { s with presented := none }) hlive hm]
  refine ⟨fun hmap => ?_, fun p hmap => ?_⟩
  · rw [passObserved_unmapped (s := { s with presented := none }) hmap]
    exact congrArg _ (openEntry_lowest (s := record _ { s with presented := none }) hfree _ _)
  · rw [passObserved_mapped (s := { s with presented := none }) hmap]
    have hott : (judgeBudget p (takenOf q) (judgeWindow p (takenOf q) { s with presented := none })).ott = s.ott := by
      obtain ⟨u, hu, -⟩ := judged_cases p (takenOf q) { s with presented := none }
      rw [hu]
    have hcredit : (judgeWindow p (takenOf q) { s with presented := none }).credit = s.credit := by
      obtain hw | ⟨i, hw⟩ := judgeWindow_cases p (takenOf q) { s with presented := none } <;> rw [hw]
      rfl
    have hlow : LowestFree (charge p (takenOf q).length
        (judgeBudget p (takenOf q) (judgeWindow p (takenOf q) { s with presented := none }))) i := by
      rw [LowestFree, charge_ott, hott]
      exact hfree
    rw [openEntry_lowest hlow, charge_eq_chargedTo, judgeBudget_eq, hcredit, judgeWindow_eq]
    rfl

theorem admission_unmapped {q : Taken} {s : State} (h : s.banks.inForce.map[q.requester] = none) :
    admission q s = refuseTaken .unmapped none 0 q s := by
  have hc : classify s q.requester = none := h
  rw [admission, hc]

/-- Admission of a mapped request: the causes of refusal in the order of R92. -/
theorem admission_mapped {q : Taken} {s : State} {p : Partition} (h : s.banks.inForce.map[q.requester] = some p) :
    admission q s =
      if s.banks.inForce.parts[p].queueLimit.val ≤ s.hold[p].length then
        refuseTaken .queueFull (some p) (BitVec.ofNat 16 s.hold[p].length) q s
      else if storeCount s = 48 then refuseTaken .storeFull (some p) 48 q s
      else enqueue p q s := by
  have hc : classify s q.requester = some p := h
  rw [admission, hc]
  rfl

/-- Settles O23: the three refusals of R92, each where no earlier cause applies. -/
theorem admissionRefuses : Obligations.AdmissionRefuses := by
  intro s q hquiet hq htake hm hlive
  rw [exec_taking hquiet hq htake, handleTaken_enforce (s := { s with presented := none }) hlive hm]
  refine ⟨fun hmap => ?_, fun p hmap hfull => ?_, fun p hmap hroom hstore => ?_⟩
  · rw [admission_unmapped (s := { s with presented := none }) hmap]
    rfl
  · rw [admission_mapped (s := { s with presented := none }) hmap, if_pos hfull]
    rfl
  · rw [admission_mapped (s := { s with presented := none }) hmap, if_neg (Nat.not_le.mpr hroom)]
    exact congrArg _ (if_pos hstore)

/-- Settles O24: with no cause of R92 the request is enqueued. -/
theorem admissionAdmits : Obligations.AdmissionAdmits := by
  intro s q p hquiet hq htake hm hlive hmap hroom hstore
  rw [exec_taking hquiet hq htake, handleTaken_enforce (s := { s with presented := none }) hlive hm,
    admission_mapped (s := { s with presented := none }) hmap, if_neg (Nat.not_le.mpr hroom)]
  exact congrArg _ (if_neg hstore)

/-! ## Eligibility and rotation (R110 to R113) -/

theorem windowOpen_iff (s : State) (p : Partition) : windowOpen s p = true ↔
    s.seq.state = .running ∧ (s.seq.phase.any fun ph => s.banks.inForce.parts[p].window.getLsbD ph.val) = true := by
  unfold windowOpen
  split
  case h_1 ph hrun hph => simp [hrun, hph, PartRecord.inWindow]
  case h_2 hother =>
    cases hph : s.seq.phase with
    | none => simp
    | some ph => simpa using fun hrun => absurd hph (hother ph hrun)

theorem eligible_iff (s : State) (p : Partition) : eligible s p = true ↔ Eligible s p := by
  have hwindow := windowOpen_iff s p
  unfold eligible Eligible EnforceEligible
  cases s.hold[p] with
  | nil => simp
  | cons e rest =>
    cases s.mode.inForce with
    | straight | observe | draining => simp
    | enforce =>
      have hboth : (windowOpen s p && decide ((e.request.length : Int) ≤ s.credit[p].remaining)) = true ↔
          s.seq.state = .running ∧
            (s.seq.phase.any fun ph => s.banks.inForce.parts[p].window.getLsbD ph.val) = true ∧
            decide ((e.request.length : Int) ≤ s.credit[p].remaining) = true := by
        rw [Bool.and_eq_true, hwindow, and_assoc]
      exact ⟨fun h => .inl ⟨rfl, hboth.mp h⟩, fun h => h.elim (fun h => hboth.mpr h.2) fun h => nomatch h.1⟩

/-- The place of a partition in the order that starts after the pointer (R113). -/
theorem rank_rotation (pointer : Partition) (j : Fin 8) : rank pointer (pointer + 1 + j) = j.val := by
  revert pointer j
  decide +kernel

theorem rotation_rank (pointer p : Partition) : pointer + 1 + (p - pointer - 1) = p := by
  revert pointer p
  decide +kernel

/-- The partition chosen is the first eligible one after the pointer (R113). -/
theorem chosen_iff (s : State) (p : Partition) :
    chosen s = some p ↔ Eligible s p ∧ ∀ j, rank s.pointer j < rank s.pointer p → ¬ Eligible s j := by
  simp only [← eligible_iff]
  rw [chosen, Machine.rotation, List.find?_map, Option.map_eq_some_iff]
  simp only [find_finRange_eq_some, Function.comp_apply]
  constructor
  · rintro ⟨i, ⟨hi, hlow⟩, rfl⟩
    refine ⟨hi, fun j hj => ?_⟩
    rw [rank_rotation] at hj
    have hlow := hlow (j - s.pointer - 1) hj
    rw [rotation_rank] at hlow
    simp [hlow]
  · rintro ⟨hp, hlow⟩
    refine ⟨p - s.pointer - 1, ⟨by rwa [rotation_rank], fun j hj => ?_⟩, rotation_rank ..⟩
    rw [Bool.eq_false_iff]
    exact hlow _ (by rw [rank_rotation]; exact hj)

theorem chosen_isSome (s : State) : (chosen s).isSome = true ↔ ∃ p, Eligible s p := by
  simp only [← eligible_iff]
  rw [chosen, Machine.rotation, List.find?_isSome]
  simp only [List.mem_map, List.mem_finRange, true_and]
  constructor
  · rintro ⟨p, -, hp⟩
    exact ⟨p, hp⟩
  · rintro ⟨p, hp⟩
    exact ⟨p, ⟨p - s.pointer - 1, rotation_rank ..⟩, hp⟩

theorem eligible_releases {s : State} {p : Partition} (h : Eligible s p) : s.mode.inForce.releases = true := by
  obtain ⟨hm, -⟩ | ⟨hm, -⟩ := h <;> rw [hm] <;> rfl

theorem canRelease_iff (s : State) : canRelease s = true ↔ ReleaseReady s ∧ ∃ p, Eligible s p := by
  rw [canRelease, Bool.and_eq_true, Bool.and_eq_true, chosen_isSome, slotReady_iff_free]
  exact ⟨fun ⟨⟨_, hready⟩, hp⟩ => ⟨hready, hp⟩, fun ⟨hready, p, hp⟩ => ⟨⟨eligible_releases hp, hready⟩, p, hp⟩⟩

theorem releaseHead_waits {s : State} (h : ¬ ReleaseReady s ∨ ∀ p : Partition, ¬ Eligible s p) :
    releaseHead s = s := by
  have hcan : canRelease s ≠ true := fun hcan => by
    obtain ⟨hready, p, hp⟩ := (canRelease_iff s).mp hcan
    obtain hwait | hnone := h
    · exact hwait hready
    · exact hnone p hp
  rw [releaseHead, if_neg hcan]

/-- Settles O19: where the conditions do not hold, neither operation acts. -/
theorem takingAndReleaseWait : Obligations.TakingAndReleaseWait := by
  intro s hquiet
  refine ⟨fun h => ?_, fun h => ?_⟩
  · exact (event_of_quiet takePresented hquiet).trans (by rw [takePresented_waits h])
  · exact (event_of_quiet releaseHead hquiet).trans (by rw [releaseHead_waits h])

/-! ## The release (R103, R113, R114) -/

/-- The head of a partition moved into the Offer Slot and charged, but for the end of a drain (R114). -/
def releasedAt (i : OttIndex) (p : Partition) (e : HeldEntry) (rest : List HeldEntry) (s : State) : State :=
  opened i e.request (some p) (chargedTo p (e.request.lenLess1.val + 1)
    { s with pointer := p, hold := s.hold.set p.val rest p.isLt })

theorem releaseHead_eq {s : State} {p : Partition} {i : OttIndex} {e : HeldEntry} {rest : List HeldEntry}
    (hready : ReleaseReady s) (hfree : LowestFree s i) (hp : chosen s = some p) (hhead : s.hold[p] = e :: rest)
    (he : e.partition = p) : releaseHead s = completeDrain (releasedAt i p e rest s) := by
  obtain ⟨helig, -⟩ := (chosen_iff s p).mp hp
  have hpop : popHead p { s with pointer := p } = { s with pointer := p, hold := s.hold.set p.val rest p.isLt } := by
    simp only [popHead, hhead, List.tail_cons]
    rfl
  rw [releaseHead, if_pos ((canRelease_iff s).mpr ⟨hready, p, helig⟩), hp]
  change releaseFrom p s = _
  rw [releaseFrom, hhead]
  change completeDrain (openEntry _ _ (charge _ _ (popHead p { s with pointer := p }))) = _
  rw [he, hpop, charge_eq_chargedTo]
  have hlow : LowestFree (chargedTo p e.request.length
      { s with pointer := p, hold := s.hold.set p.val rest p.isLt }) i := hfree
  rw [openEntry_lowest hlow]
  rfl

@[simp] theorem releasedAt_mode (i : OttIndex) (p : Partition) (e : HeldEntry) (rest : List HeldEntry) (s : State) :
    (releasedAt i p e rest s).mode = s.mode := rfl

/-- Settles O25: the release moves the head of the first eligible partition, and ends a drain it completes. -/
theorem releaseMovesHead : Obligations.ReleaseMovesHead := by
  intro s p i e rest hquiet hoffer hdrst hfree helig hfirst hhead he
  have hrelease : releaseHead s = completeDrain (releasedAt i p e rest s) :=
    releaseHead_eq ⟨hoffer, ⟨i, hfree.1⟩, hdrst⟩ hfree ((chosen_iff s p).mpr ⟨helig, hfirst⟩) hhead he
  have hexec : exec .release s = .next (releaseHead s) := event_of_quiet _ hquiet
  rw [hexec, hrelease]
  refine ⟨_, rfl, fun hgoes => ?_, fun m hm hempty htarget hdraining => ?_⟩
  · by_cases hm : s.mode.inForce = .draining
    · have hheld : storeEmpty (releasedAt i p e rest s) = false := by
        rw [Bool.eq_false_iff]
        exact fun hempty => hgoes ⟨hm, storeEmpty_iff.mp hempty⟩
      exact congrArg _ (completeDrain_waits hheld)
    · exact congrArg _ (completeDrain_other (s := releasedAt i p e rest s) hm)
  · have hends := completeDrain_ends (s := releasedAt i p e rest s) hm (storeEmpty_iff.mpr hempty) htarget hdraining
    rw [hends, Frames.modeChangedTo_eq]
    rfl

/-- A charge within the remaining credit leaves it at 0 or above (R50, R53). -/
theorem chargedCredit_remaining {c : Credit} {n : Nat} (h : (n : Int) ≤ c.remaining) :
    (chargedCredit c n).remaining = c.remaining - n := by
  rw [chargedCredit, if_pos (by omega)]

/-- Settles O26: the partition chosen was eligible in ENFORCE, and it is the one charged. -/
theorem enforceReleasesInWindowAndCredit : Obligations.EnforceReleasesInWindowAndCredit := by
  intro s t h hquiet hm hexec hoffer ht
  have hrelease : releaseHead s = t :=
    Host.Outcome.next.inj ((event_of_quiet releaseHead hquiet).symm.trans hexec)
  by_cases hgo : ReleaseReady s ∧ ∃ p, Eligible s p
  case neg =>
    have hwait := (Decidable.not_and_iff_or_not.mp hgo).imp_right not_exists.mp
    rw [releaseHead_waits hwait] at hrelease
    exact absurd (hrelease ▸ hoffer) ht
  case pos =>
    obtain ⟨hready, hsome⟩ := hgo
    obtain ⟨-, hopen, -⟩ := id hready
    obtain ⟨i, hi⟩ := Option.isSome_iff_exists.mp (lowestFree_isSome.mpr hopen)
    obtain ⟨p, hp⟩ := Option.isSome_iff_exists.mp ((chosen_isSome s).mpr hsome)
    obtain ⟨helig, -⟩ := (chosen_iff s p).mp hp
    obtain ⟨-, hrun, hphase, hcredit⟩ | ⟨hdrain, -⟩ := helig
    · cases hhead : s.hold[p] with
      | nil => simp [hhead] at hcredit
      | cons e rest =>
        obtain ⟨-, hqueues⟩ := h.hold
        obtain ⟨he, -⟩ := (hqueues p).2 e (by rw [hhead]; exact List.mem_cons_self)
        have hle : ((e.request.lenLess1.val + 1 : Nat) : Int) ≤ s.credit[p].remaining := by
          simpa [hhead] using hcredit
        rw [releaseHead_eq hready (lowestFree_eq_some.mp hi) hp hhead he,
          completeDrain_other (by rw [releasedAt_mode, hm]; decide)] at hrelease
        subst hrelease
        refine ⟨hrun, (windowOpen_iff s p).mpr ⟨hrun, hphase⟩, ?_⟩
        have hget : (releasedAt i p e rest s).credit[p] = chargedCredit s.credit[p] (e.request.lenLess1.val + 1) := by
          simp [releasedAt, opened, chargedTo]
        change 0 ≤ (releasedAt i p e rest s).credit[p].remaining
        rw [hget, chargedCredit_remaining hle]
        omega
    · rw [hm] at hdrain
      cases hdrain

/-! ## The turn of a partition (R113) -/

/-- A partition that is not chosen is nearer to its turn after the release of one that stands before it. -/
theorem rank_decreases : ∀ pointer c p : Partition, rank pointer c ≤ rank pointer p →
    c = p ∨ rank c p < rank pointer p := by
  decide +kernel

/-- Settles O27: the partition chosen stands before the one that waits, or is it. -/
theorem eligiblePartitionWaitsAtMostSeven : Obligations.EligiblePartitionWaitsAtMostSeven := by
  intro s p hp
  obtain ⟨c, hc⟩ := Option.isSome_iff_exists.mp ((chosen_isSome s).mpr ⟨p, hp⟩)
  obtain ⟨helig, hfirst⟩ := (chosen_iff s c).mp hc
  have hle : rank s.pointer c ≤ rank s.pointer p := Nat.not_lt.mp fun hlt => hfirst p hlt hp
  exact ⟨Nat.le_of_lt_succ (p - s.pointer - 1).isLt, c, hc, helig, rank_decreases _ _ _ hle⟩

end Sys2Proof.Requests
end

section
/-! PROOFS. The memory side (Chapters 7, 8): acceptance, responses, deadline expiries and DRST_N. -/

namespace Sys2Proof.Memory

open Sys2Proof.Machine Sys2Proof.Safety Sys2Proof.Claims Sys2Proof.Path Sys2Proof.Invariant Sys2Proof.Ticks

/-! ## Acceptance (R108, R117) -/

theorem accept_empty {s : State} (h : s.offer = none) : accept s = s := by rw [accept, h]

theorem accept_offered {s : State} {o : Offer} (h : s.offer = some o) :
    accept s = { s with offer := none, ott := setAt s.ott o.mtag (s.ott[o.mtag]).leaveSlot } := by rw [accept, h]

/-- Settles O28: with an offer or without one. -/
theorem acceptanceEmptiesSlot : Obligations.AcceptanceEmptiesSlot := by
  intro s hquiet
  have hexec : exec .acceptance s = .next (accept s) := event_of_quiet _ hquiet
  rw [hexec]
  refine ⟨fun h => by rw [accept_empty h], fun o h => ?_⟩
  rw [accept_offered h]
  rfl

/-! ## Response arrival (R125 to R128) -/

theorem offered_eq_any (s : State) (i : OttIndex) : offered s i = s.offer.any fun o => o.mtag == i := by
  cases h : s.offer <;> simp [offered, h]

theorem takeResponse_stray {s : State} {r : Response} (hd : s.pins.drst = false)
    (h : offered s r.mtag = true ∨ s.ott[r.mtag] = .free) : takeResponse r s = strayResponse r.mtag s := by
  rw [takeResponse, if_neg (by simp [hd])]
  split
  case isTrue => rfl
  case isFalse ho => rw [h.resolve_left ho]

theorem takeResponse_late {s : State} {r : Response} {t : Transaction} (hd : s.pins.drst = false)
    (ho : offered s r.mtag = false) (h : s.ott[r.mtag] = .expired t) :
    takeResponse r s = lateResponse t r.mtag s := by
  rw [takeResponse, if_neg (by simp [hd]), if_neg (by simp [ho]), h]

theorem takeResponse_forwarded {s : State} {r : Response} {t : Transaction} {n : Nat} (hd : s.pins.drst = false)
    (ho : offered s r.mtag = false) (h : s.ott[r.mtag] = .opened t n) : takeResponse r s = forward t r s := by
  rw [takeResponse, if_neg (by simp [hd]), if_neg (by simp [ho]), h]

theorem arriveResponse_taken {s : State} (r : Response) (h : s.pins.rst = false) :
    arriveResponse r s = takeResponse r s := by
  rw [arriveResponse, if_neg (by simp [h])]

/-- Settles O29: the order of R125, with the two reset lines before it. -/
theorem responseNotForwarded : Obligations.ResponseNotForwarded := by
  intro s r hquiet
  have hexec : exec (.responseArrival r) s = .next (arriveResponse r s) := event_of_quiet _ hquiet
  rw [hexec]
  refine ⟨fun hr hnone => by simp [arriveResponse, hr, hnone], fun hr hsome => ?_, fun hr => ?_⟩
  · obtain ⟨first, hfirst⟩ := Option.ne_none_iff_exists'.mp hsome
    have hsame : { s with memPresented := some first } = s := by rw [← hfirst]
    simp [arriveResponse, hr, hfirst, hsame]
  · rw [arriveResponse_taken r hr, ← offered_eq_any]
    refine ⟨fun hd => by simp [takeResponse, hd], fun hd h => ?_, fun hd ho t h => ?_⟩
    · rw [takeResponse_stray hd h]
      rfl
    · rw [takeResponse_late hd ho h]
      rfl

/-- A response is malformed where it is OK and answered MEM_ERROR (the table of R126). -/
theorem forwardStatus_malformed (t : Transaction) (r : Response) :
    (forwardStatus t r).2 = true ↔ r.status = .ok ∧ (forwardStatus t r).1 = .memError := by
  unfold forwardStatus
  cases r.status with
  | error => simp
  | ok =>
    cases t.kind with
    | read => by_cases h : r.beatCount.val = t.length <;> simp [h]
    | write => by_cases h : r.beatCount.val = 0 <;> simp [h]

theorem forwardData_error {t : Transaction} {r : Response} (h : (forwardStatus t r).1 = .memError) :
    forwardData t r = [] := by
  rw [forwardData, h]
  cases t.kind <;> rfl

theorem forwardData_write {t : Transaction} (r : Response) (h : t.kind = .write) : forwardData t r = [] := by
  rw [forwardData, h]

theorem forwardData_read {t : Transaction} {r : Response} (hk : t.kind = .read) (h : (forwardStatus t r).1 = .ok) :
    forwardData t r = beatsOf r := by
  rw [forwardData, hk, h]

/-- The table of R126: the status and the data of a forwarded response. -/
theorem forward_table (t : Transaction) (r : Response) :
    (r.status = .error → (forwardStatus t r).1 = .memError ∧ forwardData t r = []) ∧
    (r.status = .ok → t.kind = .read → r.beatCount.val = t.lenLess1.val + 1 →
      (forwardStatus t r).1 = .ok ∧ forwardData t r = r.data.toList.take (t.lenLess1.val + 1)) ∧
    (r.status = .ok → t.kind = .read → r.beatCount.val ≠ t.lenLess1.val + 1 →
      (forwardStatus t r).1 = .memError ∧ forwardData t r = []) ∧
    (r.status = .ok → t.kind = .write → r.beatCount.val = 0 →
      (forwardStatus t r).1 = .ok ∧ forwardData t r = []) ∧
    (r.status = .ok → t.kind = .write → r.beatCount.val ≠ 0 →
      (forwardStatus t r).1 = .memError ∧ forwardData t r = []) := by
  refine ⟨fun h => ?_, fun h hk hn => ?_, fun h hk hn => ?_, fun h hk hn => ?_, fun h hk hn => ?_⟩
  · have hst : (forwardStatus t r).1 = .memError := by simp [forwardStatus, h]
    exact ⟨hst, forwardData_error hst⟩
  · have hst : (forwardStatus t r).1 = .ok := by simp [forwardStatus, h, hk, hn, Transaction.length]
    exact ⟨hst, by rw [forwardData_read hk hst, beatsOf, hn]⟩
  · have hst : (forwardStatus t r).1 = .memError := by simp [forwardStatus, h, hk, hn, Transaction.length]
    exact ⟨hst, forwardData_error hst⟩
  · have hst : (forwardStatus t r).1 = .ok := by simp [forwardStatus, h, hk, hn]
    exact ⟨hst, forwardData_write r hk⟩
  · have hst : (forwardStatus t r).1 = .memError := by simp [forwardStatus, h, hk, hn]
    exact ⟨hst, forwardData_error hst⟩

/-- Settles O30: the table of R126 gives status and data, and a malformed response is recorded. -/
theorem responseForwarded : Obligations.ResponseForwarded := by
  intro s r t n ⟨hquiet, hr⟩ hd ho h
  have hexec : exec (.responseArrival r) s = .next (arriveResponse r s) := event_of_quiet _ hquiet
  obtain ⟨herror, hread, hreadBad, hwrite, hwriteBad⟩ := forward_table t r
  refine ⟨(forwardStatus t r).1, forwardData t r, herror, hread, hreadBad, hwrite, hwriteBad, ?_⟩
  rw [hexec, arriveResponse_taken r hr, takeResponse_forwarded hd ((offered_eq_any s _).trans ho) h]
  by_cases hbad : (forwardStatus t r).2 = true
  · exact congrArg _ ((if_pos hbad).trans (if_pos ((forwardStatus_malformed t r).mp hbad)).symm)
  · exact congrArg _ ((if_neg hbad).trans (if_neg (mt (forwardStatus_malformed t r).mpr hbad)).symm)

/-! ## Deadline expiry (R124) -/

/-- The expiry of an OPEN entry whose transaction is given: it is quarantined, answered TIMEOUT, recorded and
counted (R124). -/
def timedOut (s : State) (x : OttIndex × Transaction) : State :=
  count Stats.timeOut x.2.partition
    (record (timeoutIncident x.1 x.2)
      (respond (UpResponse.bare x.2.requester x.2.tag .timeout) { s with ott := setAt s.ott x.1 (.expired x.2) }))

/-- What waits at an index. -/
def dueAt (s : State) (i : OttIndex) : Option (OttIndex × Transaction) :=
  match s.ott[i] with
  | .opened t 0 => some (i, t)
  | .opened _ (_ + 1) => none
  | .free => none
  | .expired _ => none

theorem dueEntries_eq (s : State) : dueEntries s = (List.finRange 32).filterMap (dueAt s) := rfl

theorem expireEntry_eq (s : State) (i : OttIndex) :
    expireEntry s i = match dueAt s i with
      | some x => timedOut s x
      | none => s := by
  unfold expireEntry dueAt
  cases s.ott[i] with
  | opened t n => cases n <;> rfl
  | free | expired => rfl

/-- The OTT's reaction is the expiries that wait, one after the other in ascending index order (R124). -/
theorem ottReaction_eq_foldl (s : State) : ottReaction s = (dueEntries s).foldl timedOut s := by
  have key : ∀ (l : List OttIndex) (t : State), l.Nodup → (∀ i ∈ l, t.ott[i] = s.ott[i]) →
      l.foldl expireEntry t = (l.filterMap (dueAt s)).foldl timedOut t := by
    intro l
    induction l with
    | nil => exact fun _ _ _ => rfl
    | cons i l ih =>
      intro t hl hott
      obtain ⟨hi, hl⟩ := List.nodup_cons.mp hl
      have hdue : dueAt t i = dueAt s i := by rw [dueAt, dueAt, hott i List.mem_cons_self]
      have hrest : ∀ j ∈ l, (expireEntry t i).ott[j] = s.ott[j] := by
        intro j hj
        rw [expireEntry_ott, if_neg fun h : i = j => hi (h ▸ hj)]
        exact hott j (List.mem_cons_of_mem _ hj)
      rw [List.foldl_cons, ih _ hl hrest, expireEntry_eq, hdue, List.filterMap_cons]
      cases dueAt s i <;> rfl
  exact key _ s (List.nodup_finRange 32) fun _ _ => rfl

theorem timedOut_stats (t : State) (x : OttIndex × Transaction) (p : Partition) :
    (timedOut t x).stats[p] = if x.2.partition = some p then t.stats[p].timeOut else t.stats[p] := by
  unfold timedOut count
  cases hx : x.2.partition with
  | none => simp
  | some q =>
    by_cases hq : q = p
    · subst hq
      simp
    · simp [hq, Fin.val_ne_of_ne hq]

theorem foldl_timedOut_stats (l : List (OttIndex × Transaction)) (t : State) (p : Partition) :
    (l.foldl timedOut t).stats[p] = { t.stats[p] with
      timedOut := t.stats[p].timedOut + BitVec.ofNat 32 (l.countP fun x => x.2.partition == some p) } := by
  induction l generalizing t with
  | nil => simp
  | cons x l ih =>
    rw [List.foldl_cons, ih, timedOut_stats, List.countP_cons]
    by_cases hx : x.2.partition = some p
    · simp [hx, Stats.timeOut, BitVec.add_assoc, BitVec.ofNat_add, BitVec.add_comm 1#32]
    · simp [hx]

theorem foldl_timedOut_frame (l : List (OttIndex × Transaction)) (t : State) :
    l.foldl timedOut t = { t with
      ott := (l.foldl timedOut t).ott, returnQueue := (l.foldl timedOut t).returnQueue
      incidents := (l.foldl timedOut t).incidents, stats := (l.foldl timedOut t).stats } := by
  induction l generalizing t with
  | nil => rfl
  | cons x l ih =>
    rw [List.foldl_cons]
    exact ih (timedOut t x)

/-- Settles O31: the reaction is the expiries that wait in their order, item by item. -/
theorem deadlineExpiriesInOrder : Obligations.DeadlineExpiriesInOrder := by
  intro s
  have heq := ottReaction_eq_foldl s
  refine ⟨ottReaction s, rfl, fun i => ?_, ?_, ?_, fun p => ?_, ?_⟩
  · exact ottReaction_ott s i
  · rw [heq]
    exact foldl_returnQueue (fun _ _ => rfl) (dueEntries s) s
  · rw [heq]
    exact foldl_incidents (f := timedOut) (i := fun x => timeoutIncident x.1 x.2) (fun _ _ => rfl) (fun _ _ => rfl)
      (dueEntries s) s
  · rw [heq]
    exact foldl_timedOut_stats _ s p
  · rw [heq]
    exact foldl_timedOut_frame _ s

/-! ## DRST_N (R116, R117, R132) -/

theorem abort_eq : OttEntry.abort = fun x => match x with
    | .opened t _ => some { requester := t.requester, tag := t.tag, status := .aborted, data := [] }
    | .free | .expired _ => none := by
  funext x
  cases x <;> rfl

/-- Settles O32: the level of DRST_N decides, and under RST_N the level alone changes. -/
theorem memorySideReset : Obligations.MemorySideReset := by
  intro s hquiet
  have hassert : exec .drstNAssertion s = .next (drstAssert s) := event_of_quiet _ hquiet
  rw [hassert]
  refine ⟨fun hd => by simp [drstAssert, hd], fun hd hr => by simp [drstAssert, hd, hr], fun hd hr => ?_,
    event_of_quiet _ hquiet⟩
  rw [drstAssert_eq hr hd, memorySideCleared, abort_eq]
  rfl

theorem leaveSlot_abort (x : OttEntry) : x.leaveSlot.abort = x.abort := by cases x <;> rfl

theorem leaveSlot_openKey (x : OttEntry) : openKey x.leaveSlot = openKey x := by cases x <;> rfl

theorem leaveSlot_isDue (x : OttEntry) : x.leaveSlot.isDue = x.isDue := by cases x <;> rfl

/-- After an acceptance the reset notice finds the same OPEN entries (R117). -/
theorem memorySideCleared_accept (s : State) : memorySideCleared (accept s) = memorySideCleared s ∧
    openCount (accept s) = openCount s := by
  cases ho : s.offer with
  | none => rw [accept_empty ho]; exact ⟨rfl, rfl⟩
  | some o =>
    rw [accept_offered ho, openCount_eq, openCount_eq]
    dsimp only
    refine ⟨?_, congrArg _ (filterMap_setAt_same (leaveSlot_openKey _))⟩
    rw [memorySideCleared, memorySideCleared]
    dsimp only
    rw [filterMap_setAt_same (leaveSlot_abort _)]

/-- An acceptance brings no expiry to be handled. -/
theorem accept_quiet {s : State} (h : quiet s = true) : quiet (accept s) = true := by
  obtain ⟨hp, hg, hd⟩ := quiet_iff.mp h
  cases ho : s.offer with
  | none => rwa [accept_empty ho]
  | some o =>
    rw [accept_offered ho, quiet_iff]
    refine ⟨hp, hg, ?_⟩
    rw [Bool.eq_false_iff] at hd ⊢
    intro hdue
    obtain ⟨i, hi⟩ := (deadlineDue_iff _).mp hdue
    refine hd ((deadlineDue_iff s).mpr ?_)
    dsimp only at hi
    rw [setAt_get] at hi
    split at hi
    · exact ⟨o.mtag, leaveSlot_isDue _ ▸ hi⟩
    · exact ⟨i, hi⟩

/-- Under the reset notice every entry is FREE, so no deadline waits. -/
theorem drstAssert_quiet {s : State} (h : quiet s = true) (hr : s.pins.rst = false) (hd : s.pins.drst = false) :
    quiet (drstAssert s) = true := by
  obtain ⟨hp, hg, -⟩ := quiet_iff.mp h
  rw [drstAssert_eq hr hd, quiet_iff]
  refine ⟨hp, hg, ?_⟩
  rw [Bool.eq_false_iff]
  intro hdue
  obtain ⟨i, hi⟩ := (deadlineDue_iff _).mp hdue
  simp [memorySideCleared, OttEntry.isDue] at hi

/-- Settles O33: the notice clears what the acceptance changed, and leaves nothing to accept. -/
theorem acceptanceAndResetEitherOrder : Obligations.AcceptanceAndResetEitherOrder := by
  intro s a b c d ⟨hquiet, hr⟩ hd ha hb hc hdd
  have hacc : accept s = a := Host.Outcome.next.inj ((event_of_quiet accept hquiet).symm.trans ha)
  have hrst : drstAssert s = c := Host.Outcome.next.inj ((event_of_quiet drstAssert hquiet).symm.trans hc)
  subst hacc hrst
  have hpins : (accept s).pins = s.pins := by cases ho : s.offer <;> simp [accept, ho]
  have hb : drstAssert (accept s) = b :=
    Host.Outcome.next.inj ((event_of_quiet drstAssert (accept_quiet hquiet)).symm.trans hb)
  have hdd : accept (drstAssert s) = d :=
    Host.Outcome.next.inj ((event_of_quiet accept (drstAssert_quiet hquiet hr hd)).symm.trans hdd)
  obtain ⟨hcleared, hcount⟩ := memorySideCleared_accept s
  rw [← hb, ← hdd, drstAssert_eq (by rw [hpins, hr]) (by rw [hpins, hd]), hcleared, hcount, drstAssert_eq hr hd,
    accept_empty rfl]

end Sys2Proof.Memory
end

section
/-! PROOFS. The transactions and executions of the Configuration Link (Chapter 10). -/

namespace Sys2Proof.Wire

open Sys2Proof.Machine Sys2Proof.Safety Sys2Proof.Claims Sys2Proof.Invariant Sys2Proof.Commands

/-! ## The assertion of CS_N (R150, R154) -/

theorem csAssert_idle {s : State} (hc : s.pins.cs = false) (hr : s.pins.rst = false) (h : s.link.state = .idle) :
    csAssert s = { s with
      pins := { s.pins with cs := true }
      link := { s.link with state := .receiving false, buffer := [], bits := [] } } := by
  simp [csAssert, finishExecution, hc, hr, h]

theorem csAssert_executing {s : State} {x : Execution} (hc : s.pins.cs = false) (hr : s.pins.rst = false)
    (h : s.link.state = .executing x) : csAssert s = { finishExecution s with
      pins := { (finishExecution s).pins with cs := true }
      link := { (finishExecution s).link with state := .receiving true, buffer := [], bits := [] } } := by
  simp [csAssert, hc, hr, h]

/-- Settles O34: the level of CS_N, then RST_N, then the link state decide; the bits on MISO are those of its bytes. -/
theorem transactionBegins : Obligations.TransactionBegins := by
  intro s hquiet
  have hexec : exec .csNAssertion s = .next (csAssert s) := event_of_quiet _ hquiet
  rw [hexec]
  refine ⟨fun hc => by simp [csAssert, hc], fun hc hr => by simp [csAssert, hc, hr],
    fun k j hj => misoBit_of_byte s k hj, fun hcalm hc hidle => ?_, fun hcalm hc x hx => ?_⟩
  · exact ⟨_, rfl, csAssert_idle hc hcalm.2 hidle, fun k => by rw [csAssert_idle hc hcalm.2 hidle]; rfl⟩
  · exact ⟨_, _, event_of_quiet _ hquiet, rfl, csAssert_executing hc hcalm.2 hx,
      fun k => by rw [csAssert_executing hc hcalm.2 hx]; rfl⟩

/-! ## The deassertion of CS_N (R150 to R154) -/

theorem endTransaction_early {l : Link} {mosi : List Bool} (h : mosi ≠ []) :
    l.endTransaction true mosi = linkError .framingError mosi := by
  rw [Link.endTransaction, if_neg h, if_pos rfl]
  rfl

theorem endTransaction_error {l : Link} {mosi : List Bool} {st : ReplyStatus} (h : mosi ≠ [])
    (hf : checkFrame (groupBits mosi).1 (groupBits mosi).2 = .error st) :
    l.endTransaction false mosi = linkError st mosi := by
  rw [Link.endTransaction, if_neg h, if_neg Bool.false_ne_true, hf]
  rfl

theorem endTransaction_sound {l : Link} {mosi : List Bool} {c : LinkCommand} (h : mosi ≠ [])
    (hf : checkFrame (groupBits mosi).1 (groupBits mosi).2 = .sound c) :
    l.endTransaction false mosi = { l with
      state := .executing (.command c), buffer := (groupBits mosi).1.take 203, bits := (groupBits mosi).2 } := by
  rw [Link.endTransaction, if_neg h, if_neg Bool.false_ne_true, hf]
  rfl

theorem csDeassert_receiving {s : State} {early : Bool} (hc : s.pins.cs = true)
    (h : s.link.state = .receiving early) (mosi : List Bool) :
    csDeassert mosi s = { s with
      pins := { s.pins with cs := false }, link := s.link.endTransaction early mosi } := by
  rw [csDeassert, if_pos hc, h]

/-- Settles O35: the level of CS_N, the link state, and the checks of the frame decide. -/
theorem transactionEnds : Obligations.TransactionEnds := by
  intro s mosi hquiet
  have hexec : exec (.csNDeassertion mosi) s = .next (csDeassert mosi s) := event_of_quiet _ hquiet
  rw [hexec]
  refine ⟨fun hc => by simp [csDeassert, hc], fun hc hidle => by simp [csDeassert, hc, hidle], fun early hc h => ?_⟩
  rw [csDeassert_receiving hc h]
  refine ⟨fun hm => by rw [Link.endTransaction, if_pos hm], fun hm he => ?_, fun st hm he hf => ?_,
    fun c hm he hf => ?_⟩
  · rw [he, endTransaction_early hm]
  · rw [he, endTransaction_error hm hf]
  · rw [he, endTransaction_sound hm hf]

/-! ## The checks of a frame (R151 to R153) -/

/-- The command check gives no framing error. -/
theorem checkCommand_not_framing (code : Byte) (args : List Byte) :
    checkCommand code args ≠ .error .framingError := by
  unfold checkCommand
  split
  case h_1 => nofun
  case h_2 => nofun
  case h_3 => split <;> nofun

theorem checkFrame_framing (bytes : List Byte) (bits : List Bool) :
    checkFrame bytes bits = .error .framingError ↔ splitFrame bytes bits = none := by
  unfold checkFrame
  split
  case h_1 h => simp [h]
  case h_2 code args crc h =>
    rw [h]
    refine iff_of_false ?_ nofun
    split
    · exact checkCommand_not_framing code args
    · nofun

/-- The framing of a frame with a code and a length is sound when the length is in range, the arguments and the CRC
byte are there, and only FFh follows them (R151). -/
theorem splitFrame_eq_none (code len : Byte) (rest : List Byte) : splitFrame (code :: len :: rest) [] = none ↔
    200 < len.toNat ∨ rest.length < len.toNat + 1 ∨ ∃ b ∈ rest.drop (len.toNat + 1), b ≠ 0xFF#8 := by
  have hall : (rest.drop (len.toNat + 1)).all (fun b => b == 0xFF#8) = true ↔
      ¬ ∃ b ∈ rest.drop (len.toNat + 1), b ≠ 0xFF#8 := by simp
  rw [splitFrame, Config.maxArguments]
  split
  case isTrue h =>
    obtain ⟨hlen, hrest, hpad⟩ := h
    rw [hall] at hpad
    refine iff_of_false nofun ?_
    rintro (hlong | hshort | hbad)
    · omega
    · omega
    · exact hpad hbad
  case isFalse h =>
    refine iff_of_true rfl ?_
    refine Classical.byContradiction fun hnot => ?_
    obtain ⟨hlen, hrest, hpad⟩ := by simpa only [not_or] using hnot
    exact h ⟨by omega, by omega, hall.mpr hpad⟩

/-- Settles O36: by the bits left over and the first two bytes. -/
theorem framingFailsInFiveCases : Obligations.FramingFailsInFiveCases := by
  intro bytes bits
  rw [checkFrame_framing]
  match bits, bytes with
  | b :: bits, bytes => exact iff_of_true rfl (.inl (List.cons_ne_nil b bits))
  | [], [] => exact iff_of_true rfl (.inr (.inl (Nat.zero_lt_succ 2)))
  | [], [code] => exact iff_of_true rfl (.inr (.inl (by decide : 1 < 3)))
  | [], code :: len :: rest =>
    rw [splitFrame_eq_none]
    constructor
    · rintro (hlong | hshort | hbad)
      · exact .inr (.inr ⟨code, len, rest, rfl, .inl hlong⟩)
      · exact .inr (.inr ⟨code, len, rest, rfl, .inr (.inl (by simp only [List.length_cons]; omega))⟩)
      · exact .inr (.inr ⟨code, len, rest, rfl, .inr (.inr hbad)⟩)
    · rintro (hbits | hshort | ⟨code', len', rest', heq, h⟩)
      · exact absurd rfl hbits
      · simp only [List.length_cons] at hshort
        exact .inr (.inl (by omega))
      · cases heq
        simp only [List.length_cons] at h
        obtain hlong | hshort | hbad := h
        · exact .inl hlong
        · exact .inr (.inl (by omega))
        · exact .inr (.inr hbad)

/-! ## A frame as it is sent (11.2, 11.3) -/

theorem halfOfBytes_split (h : Half) : halfOfBytes (h.extractLsb' (8 * 1) 8) (h.extractLsb' (8 * 0) 8) = h :=
  (halfOfBytes_beBytes h).2

/-- The arguments of a command fit the frame (R151). -/
theorem commandArgs_length {c : LinkCommand} (h : c.wf = true) : (commandArgs c).length ≤ 200 := by
  cases c with
  | writeMap b f n es =>
    simp only [LinkCommand.wf, mapEntriesFit, Bool.and_eq_true, decide_eq_true_eq] at h
    obtain ⟨hfit, -⟩ := h
    simp only [commandArgs, List.length_append, List.length_cons, List.length_nil]
    omega
  | writePhases b n ls => simp [commandArgs]
  | _ => simp [commandArgs]

/-- The arguments of a command, read back under its code (R153, 11.3). -/
theorem readArgs_commandArgs {c : LinkCommand} (h : argsInRange c = true) :
    readArgs (commandCode c) (commandArgs c) = some (some c) := by
  cases c with
  | writeSettings p m g d a k t e =>
    change some (some (LinkCommand.writeSettings p m (halfOfBytes _ _) d a k t e)) = _
    rw [halfOfBytes_split]
  | writePartition b p e w base f q hl =>
    change some (some (LinkCommand.writePartition b p e w (halfOfBytes _ _) f q hl)) = _
    rw [halfOfBytes_split]
  | writePhases b n ls =>
    change some (some (LinkCommand.writePhases b n #v[halfOfBytes _ _, halfOfBytes _ _, halfOfBytes _ _,
      halfOfBytes _ _, halfOfBytes _ _, halfOfBytes _ _, halfOfBytes _ _, halfOfBytes _ _])) = _
    congr 3
    refine table_ext fun i => ?_
    match i with
    | 0 | 1 | 2 | 3 | 4 | 5 | 6 | 7 => exact halfOfBytes_split _
  | writeMap b f n es =>
    obtain ⟨⟨i, first, entries⟩, hw⟩ := Option.isSome_iff_exists.mp h
    obtain ⟨-, hlen, hmin, hmax, -⟩ := mapWrite?_eq_some hw
    exact congrArg some (if_pos ⟨hmin, hmax, hlen⟩)
  | _ => rfl

/-- The framing of a frame as it is sent, with any padding of FFh, is sound (R151). -/
theorem splitFrame_frameOf {c : LinkCommand} (h : c.wf = true) (padding : Nat) :
    splitFrame (frameOf c ++ List.replicate padding 0xFF#8) [] = some (commandCode c, commandArgs c,
      crc8 (commandCode c :: countByte (commandArgs c).length :: commandArgs c)) := by
  have hlen := commandArgs_length h
  have hcount : (countByte (commandArgs c).length).toNat = (commandArgs c).length := by
    rw [countByte, BitVec.toNat_ofNat]
    omega
  have hnil : (commandArgs c).drop ((commandArgs c).length + 1) = [] := List.drop_eq_nil_of_le (Nat.le_succ _)
  simp [frameOf, splitFrame, hcount, hlen, Config.maxArguments, List.drop_append, hnil]

theorem checkFrame_frameOf {c : LinkCommand} (h : argsInRange c = true) (hwf : c.wf = true) (padding : Nat) :
    checkFrame (frameOf c ++ List.replicate padding 0xFF#8) [] = .sound c := by
  rw [checkFrame, splitFrame_frameOf hwf]
  dsimp only
  rw [if_pos rfl, checkCommand, readArgs_commandArgs h]
  exact if_pos h

theorem bitsOfBytes_frameOf (c : LinkCommand) (rest : List Byte) : bitsOfBytes (frameOf c ++ rest) ≠ [] := by
  simp [frameOf, bitsOfBytes, byteBits]

/-- Settles O37: the bits group to the bytes sent, whose framing, CRC and arguments read back as the command. -/
theorem frameSentIsCommandExecuted : Obligations.FrameSentIsCommandExecuted := by
  intro s c padding hquiet hc h hin hwf
  have hcheck := checkFrame_frameOf hin hwf padding
  generalize hbytes : frameOf c ++ List.replicate padding 0xFF#8 = bytes at hcheck
  have hne : bitsOfBytes bytes ≠ [] := hbytes ▸ bitsOfBytes_frameOf c _
  have hexec : exec (.csNDeassertion (bitsOfBytes bytes)) s = .next (csDeassert (bitsOfBytes bytes) s) :=
    event_of_quiet _ hquiet
  rw [hexec, csDeassert_receiving hc h, endTransaction_sound hne (by rw [groupBits_bitsOfBytes]; exact hcheck)]
  exact ⟨_, rfl, rfl, rfl, rfl⟩

/-! ## Executions (R154) -/

theorem finishExecution_replying {s : State} {r : Reply} (h : s.link.state = .executing (.replying r)) :
    finishExecution s = { s with link := { s.link with state := .idle, reply := r } } := by
  rw [finishExecution, h]

theorem finishExecution_command {s : State} {c : LinkCommand} (h : s.link.state = .executing (.command c)) :
    finishExecution s = { carryOut c s with
      link := { (carryOut c s).link with state := .idle, reply := (perform c s).2 } } := by
  rw [finishExecution, h]
  rfl

theorem finishExecution_other {s : State} (h : ∀ x, s.link.state ≠ .executing x) : finishExecution s = s := by
  unfold finishExecution
  split
  case h_1 c hx => exact absurd hx (h _)
  case h_2 r hx => exact absurd hx (h _)
  all_goals rfl

/-- Settles O38: the link is EXECUTING a reply, a command, or nothing. -/
theorem executionEnds : Obligations.ExecutionEnds := by
  intro s hquiet
  have hexec : exec .endOfExecution s = .next (finishExecution s) := event_of_quiet _ hquiet
  rw [hexec]
  refine ⟨fun r h => by rw [finishExecution_replying h], fun c h hr hc => ?_, fun h => ?_⟩
  · refine ⟨_, carryOut c s, (perform c s).2, ?_, rfl, rfl, finishExecution_command h⟩
    rw [exec_row, event_of_quiet _ hquiet, runCommand_idle hr hc (.inr h)]
  · refine congrArg _ (finishExecution_other fun x hx => ?_)
    obtain hidle | ⟨e, he⟩ := h
    · rw [hidle] at hx
      cases hx
    · rw [he] at hx
      cases hx

/-- After the end of an execution the link is not EXECUTING (R154). -/
theorem finishExecution_not_executing (s : State) (x : Execution) :
    (finishExecution s).link.state ≠ .executing x := by
  unfold finishExecution
  split
  case h_1 | h_2 => nofun
  case h_3 h | h_4 h => simp [h]

/-- Settles O39: while EXECUTING another command, a row ends that execution and is then carried out. -/
theorem commandRowWaitsItsTurn : Obligations.CommandRowWaitsItsTurn := by
  intro c s hquiet
  refine ⟨fun h => ?_, fun ⟨_, hr⟩ hc hother => ⟨finishExecution s, event_of_quiet _ hquiet, fun hq => ?_⟩⟩
  · rw [exec_row, event_of_quiet _ hquiet, runCommand, if_pos (by simpa using h)]
  · have hnot : ¬ (s.pins.rst || s.pins.cs) = true := by simp [hr, hc]
    have hdone := finishExecution_not_executing s
    rw [exec_row, exec_row, event_of_quiet _ hquiet, event_of_quiet _ hq, runCommand, if_neg hnot, if_neg hother,
      runCommand, finishExecution_pins, if_neg hnot, if_neg (hdone _), finishExecution_other hdone]

/-! ## Refusals (R153, R155) -/

/-- A command with a field out of range is refused before anything is done (R153). -/
theorem perform_out_of_range {c : LinkCommand} (s : State) (h : argsInRange c = false) :
    perform c s = (s, replyOf .badArgument) := by
  cases c with
  | nop | readStatus | readSettings | cancelSwitch | stopSchedule | takeIncident | clearStatistics | flushQuarantine
  | resetRegulator => cases h
  | writeSettings p m g d a k t e =>
    have hnone : settings? p m g d a k t e = none := by simpa [argsInRange] using h
    simp [perform, cmdWriteSettings, hnone, refuse]
  | readPhases b =>
    have hnone : bank? b = none := by simpa [argsInRange] using h
    simp [perform, cmdReadPhases, hnone, refuse]
  | writePhases b n ls =>
    have hnone : phases? b n = none := by simpa [argsInRange] using h
    simp [perform, cmdWritePhases, hnone, refuse]
  | readPartition b p =>
    have hnone : bankPartition? b p = none := by simpa [argsInRange] using h
    simp [perform, cmdReadPartition, hnone, refuse]
  | writePartition b p e w base f q hl =>
    cases hbank : bankPartition? b p with
    | none => simp [perform, cmdWritePartition, hbank, refuse]
    | some x =>
      have hnone : record? e w base f q hl = none := by simpa [argsInRange, hbank] using h
      simp [perform, cmdWritePartition, hnone, refuse]
  | readMap b f n =>
    have hnone : mapRun? b f n = none := by simpa [argsInRange] using h
    simp [perform, cmdReadMap, hnone, refuse]
  | writeMap b f n es =>
    have hnone : mapWrite? b f n es = none := by simpa [argsInRange] using h
    simp [perform, cmdWriteMap, hnone, refuse]
  | copyBank src dst =>
    have hnone : copy? src dst = none := by simpa [argsInRange] using h
    simp [perform, cmdCopyBank, hnone, refuse]
  | closeBank b =>
    have hnone : bank? b = none := by simpa [argsInRange] using h
    exact Banks.cmdCloseBank_badArgument s hnone
  | requestSwitch b =>
    have hnone : bank? b = none := by simpa [argsInRange] using h
    exact Banks.cmdRequestSwitch_badArgument s hnone
  | setMode m =>
    have hnone : targetMode? m = none := by simpa [argsInRange] using h
    exact Modes.cmdSetMode_badArgument s hnone
  | readStatistics p =>
    have hnone : fin? 8 p = none := by simpa [argsInRange] using h
    simp [perform, cmdReadStatistics, hnone, refuse]
  | readTransactions f =>
    have hnone : fin? 32 f = none := by simpa [argsInRange] using h
    simp [perform, cmdReadTransactions, hnone, refuse]

/-- Settles O40: every command reads its fields before it does anything. -/
theorem badArgumentChangesNothing : Obligations.BadArgumentChangesNothing :=
  fun _ s hfree h => Banks.exec_row_of_perform hfree (perform_out_of_range s h)

/-- What a command does under a status other than OK, ACCEPTED and QUEUE_EMPTY is nothing (R155). -/
theorem effect_refused {s t : State} {st : ReplyStatus} (h : Effect s t st) (hok : st ≠ .ok) (hacc : st ≠ .accepted)
    (hempty : st ≠ .queueEmpty) : t = s := by
  cases h with
  | nothing => rfl
  | switchPending | modeRequested => exact absurd rfl hacc
  | lostTaken => exact absurd rfl hempty
  | _ => exact absurd rfl hok

/-- Settles O41: of the effects of a command, the one under a refusing status is none. -/
theorem refusedCommandChangesNothing : Obligations.RefusedCommandChangesNothing := by
  intro c s t st bytes hfree hexec hlink hok hacc hempty
  have hdoes : Effect s (perform c s).1 (perform c s).2.status := perform_does c s
  obtain ⟨u, st', bytes', hp⟩ : ∃ u st' bytes', perform c s = (u, { status := st', bytes := bytes' }) :=
    ⟨_, _, _, rfl⟩
  rw [hp] at hdoes
  have ht : withReply st' bytes' u = t :=
    Host.Outcome.next.inj ((Banks.exec_row_of_perform hfree hp).symm.trans hexec)
  subst ht
  cases hlink
  have hsame : u = s := effect_refused hdoes hok hacc hempty
  rw [hsame]

end Sys2Proof.Wire
end

section
/-! PROOFS. The replies that carry data (Chapter 11): their layouts, and the commands that read. -/

namespace Sys2Proof.Layouts

open Sys2Proof.Machine Sys2Proof.Safety Sys2Proof.Claims Sys2Proof.Path Sys2Proof.Invariant

/-! ## Fields and bytes (R162) -/

theorem field_succ (k v : Nat) : field (k + 1) v = BitVec.ofNat 8 (v / 256 ^ k) :: field k v := by
  rw [field, List.range_succ_eq_map, List.map_cons, List.map_map]
  congr 1
  refine List.map_congr_left fun j _ => ?_
  have hexp : k + 1 - 1 - (j + 1) = k - 1 - j := by omega
  rw [Function.comp_apply, Nat.succ_eq_add_one, hexp]

theorem field_one (v : Nat) : field 1 v = [BitVec.ofNat 8 v] := by simp [field]

@[simp] theorem field_length (n v : Nat) : (field n v).length = n := by simp [field]

/-- The bytes of a field are those of its number (R162). -/
theorem beBytes_eq_field {w : Nat} (k : Nat) (v : BitVec w) : beBytes k v = field k v.toNat := by
  induction k with
  | zero => rfl
  | succ k ih => rw [beBytes, field_succ, ih, extractLsb'_byte]

/-- A field shows its number modulo its size. -/
theorem field_mod {n m : Nat} (h : n ≤ m) (v : Nat) : field n (v % 256 ^ m) = field n v := by
  induction n with
  | zero => rfl
  | succ n ih =>
    rw [field_succ, field_succ, ih (by omega)]
    congr 1
    apply BitVec.eq_of_toNat_eq
    have hpow : 256 ^ m = 256 ^ n * 256 ^ (m - n) := by rw [← Nat.pow_add]; congr 1; omega
    have hdvd : 2 ^ 8 ∣ 256 ^ (m - n) := by
      obtain ⟨d, hd⟩ : ∃ d, m - n = d + 1 := ⟨m - n - 1, by omega⟩
      rw [hd, Nat.pow_succ]
      exact Nat.dvd_mul_left _ _
    rw [BitVec.toNat_ofNat, BitVec.toNat_ofNat, hpow, Nat.mod_mul_right_div_self, Nat.mod_mod_of_dvd _ hdvd]

/-- The bytes of a count in a field of 16 bits. -/
theorem beBytes_two_ofNat (v : Nat) : beBytes 2 (BitVec.ofNat 16 v) = field 2 v := by
  rw [beBytes_eq_field, BitVec.toNat_ofNat]
  exact field_mod (n := 2) (m := 2) (Nat.le_refl 2) v

/-- The bytes of a count in a field of 32 bits. -/
theorem beBytes_four_ofNat (v : Nat) : beBytes 4 (BitVec.ofNat 32 v) = field 4 v := by
  rw [beBytes_eq_field, BitVec.toNat_ofNat]
  exact field_mod (n := 4) (m := 4) (Nat.le_refl 4) v

theorem field_one_countByte (v : Nat) : field 1 v = [countByte v] := field_one v

/-- A byte as a field of one byte. -/
theorem countByte_toNat (b : Byte) : countByte b.toNat = b := by
  rw [countByte, BitVec.ofNat_toNat, BitVec.setWidth_eq]

/-! ## Codes as numbers (R163, 11.3, 11.5) -/

theorem finCode_eq {n : Nat} (i : Fin n) : finCode i = countByte i.val := rfl

theorem onOffCode_eq (b : Bool) : onOffCode b = countByte b.toNat := by cases b <;> rfl

theorem bankStateCode_eq (b : BankState) : bankStateCode b = countByte (bankStateNumber b) := by cases b <;> rfl

theorem bankCode_eq (b : Option BankId) : codeOr bankCode b = countByte (bankNumber b) := by
  match b with
  | none | some .bank0 | some .bank1 => rfl

theorem modeCode_eq (m : Mode) : modeCode m = countByte (modeNumber (some m)) := by cases m <;> rfl

theorem modeCodeOr_eq (m : Option Mode) : codeOr modeCode m = countByte (modeNumber m) := by
  cases m with
  | none => rfl
  | some m => exact modeCode_eq m

theorem partitionCode_eq (p : Option Partition) : codeOr finCode p = countByte (partitionNumber p) := by
  cases p <;> rfl

theorem incidentCode_eq (k : IncidentKind) : incidentCode k = countByte (kindNumber k) := by cases k <;> rfl

theorem shownPhaseCode_eq (p : ShownPhase) : shownPhaseCode p = countByte (phaseNumber p) := by cases p <;> rfl

/-- The sequencer-state codes of 11.3. -/
def seqNumber : SeqState → Nat
  | .stopped => 0
  | .running => 1
  | .gap => 2

theorem seqStateCode_eq (q : SeqState) : seqStateCode q = countByte (seqNumber q) := by cases q <;> rfl

/-- The cause codes of 11.3. -/
def causeNumber : Option Cause → Nat
  | some .timed => 0
  | some .sync => 1
  | some .guard => 2
  | none => 255

theorem causeCode_eq (c : Option Cause) : codeOr causeCode c = countByte (causeNumber c) := by
  match c with
  | none | some .timed | some .sync | some .guard => rfl

/-- The phase code of the status report (R22, 11.4). -/
def shownNumber (s : State) : Nat :=
  match s.seq.state with
  | .stopped => 255
  | .running => (s.seq.phase.map Fin.val).getD 255
  | .gap => 8

theorem shownNumber_eq (s : State) : codeOr shownPhaseCode (shownPhase s) = countByte (shownNumber s) := by
  unfold shownNumber shownPhase
  cases s.seq.state with
  | stopped | gap => rfl
  | running => cases s.seq.phase <;> rfl

/-- The ticks-remaining figure of the status report (R22, 11.4). -/
def ticksNumber (s : State) : Nat :=
  match s.seq.state with
  | .stopped => 0
  | .running => s.seq.ticksLeft
  | .gap => s.seq.guardInForce - s.seq.gapElapsed

theorem ticksFigure_eq (s : State) : ticksFigure s = ticksNumber s := by
  unfold ticksNumber ticksFigure
  cases s.seq.state with
  | stopped | running => rfl
  | gap =>
    dsimp only
    split
    case isTrue h => rw [h, Nat.zero_sub]
    case isFalse => rfl

theorem activeNumber_eq (b : BankControl) : bankNumber b.active =
    if b.bank0.state = .active then 0 else if b.bank1.state = .active then 1 else 255 := by
  unfold BankControl.active
  split
  · rfl
  · split <;> rfl

/-! ## The status report (R157, 11.4) -/

theorem holdLengths_eq (s : State) : ((List.finRange 8).flatMap fun p => field 1 (s.hold[p]).length) =
    s.hold.toList.map fun q => countByte q.length := by
  simp only [field_one, toList_eq_map_finRange, List.map_map]
  rfl

/-- The layout of 11.4 with its codes named. -/
theorem statusLayout_numbers (s : State) : statusLayout s =
    field 1 (seqNumber s.seq.state) ++ field 4 s.seq.frame.toNat ++ field 1 (shownNumber s) ++
    field 2 (ticksNumber s) ++ field 1 (causeNumber s.seq.cause) ++
    field 1 (bankStateNumber s.banks.bank0.state) ++ field 1 (bankStateNumber s.banks.bank1.state) ++
    field 1 (if s.banks.bank0.state = .active then 0 else if s.banks.bank1.state = .active then 1 else 255) ++
    field 1 (bankNumber s.banks.pendingSwitch) ++ field 2 s.banks.framesInBank ++
    field 1 (modeNumber (some s.mode.inForce)) ++ field 1 (modeNumber s.mode.requested) ++
    field 1 (modeNumber s.mode.drainTarget) ++
    (List.finRange 8).flatMap (fun p => field 1 (s.hold[p]).length) ++
    field 1 (storeCount s) ++ field 1 (openCount s) ++ field 1 (expiredCount s) ++ field 1 s.offer.isSome.toNat ++
    field 1 s.returnQueue.length ++ field 1 s.incidents.queue.length ++ field 1 s.incidents.lost ++
    field 1 s.pins.drst.toNat := rfl

/-- The status report has the layout of 11.4. -/
theorem statusBytes_eq (s : State) : statusBytes s = statusLayout s := by
  rw [statusLayout_numbers, ← activeNumber_eq, holdLengths_eq, statusBytes, ticksFigure_eq, beBytes_eq_field 4]
  simp only [seqStateCode_eq, shownNumber_eq, causeCode_eq, bankStateCode_eq, bankCode_eq, modeCode_eq, modeCodeOr_eq,
    onOffCode_eq, field_one_countByte, beBytes_two_ofNat, List.append_assoc, List.cons_append, List.nil_append]

/-! ## The other replies with data (11.5, 11.6) -/

/-- The sync-mode codes of 11.3. -/
def syncModeNumber : SyncMode → Nat
  | .free => 0
  | .follow => 1

theorem syncModeCode_eq (m : SyncMode) : syncModeCode m = countByte (syncModeNumber m) := by cases m <;> rfl

/-- The layout of the settings with its codes named. -/
theorem settingsLayout_numbers (n : Settings) : settingsLayout n =
    field 1 n.prescale.val ++ field 1 (syncModeNumber n.syncMode) ++ field 2 n.syncGuard.toNat ++
    field 1 n.deadline.val ++ field 1 n.alternation.toNat ++ field 1 n.exponent.val ++
    field 1 n.alertThreshold.val ++ field 1 n.alertEnable.toNat := rfl

theorem settingsBytes_eq (n : Settings) : settingsBytes n = settingsLayout n := by
  rw [settingsLayout_numbers, settingsBytes]
  simp only [finCode_eq, syncModeCode_eq, onOffCode_eq, field_one_countByte, beBytes_eq_field, List.append_assoc,
    List.cons_append, List.nil_append]

theorem lengthBytes_eq (v : Vector Half 8) :
    lengthBytes v = (List.finRange 8).flatMap fun p => field 2 (v[p]).toNat := by
  have hphases : List.finRange 8 = [0, 1, 2, 3, 4, 5, 6, 7] := rfl
  rw [hphases]
  simp only [lengthBytes, beBytes_eq_field, List.flatMap_cons, List.flatMap_nil, List.append_nil, List.append_assoc]
  rfl

theorem phasesBytes_eq (c : Schedule) : phasesBytes c = phasesLayout c := by
  rw [phasesBytes, phasesLayout, lengthBytes_eq, finCode_eq, field_one_countByte]
  rfl

theorem recordBytes_eq (r : PartRecord) : recordBytes r = recordLayout r := by
  simp only [recordBytes, recordLayout, finCode_eq, onOffCode_eq, field_one_countByte, beBytes_two_ofNat,
    List.append_assoc, List.cons_append, List.nil_append]

theorem mapBytes_eq (l : List (Option Partition)) :
    l.map mapEntryByte = l.flatMap fun e => field 1 (partitionNumber e) := by
  simp only [List.map_eq_flatMap, field_one_countByte, mapEntryByte, partitionCode_eq]

/-- Two's complement in a field of 32 bits (R162). -/
theorem beBytes_four_ofInt (x : Int) : beBytes 4 (BitVec.ofInt 32 x) = field 4 (x % 2 ^ 32).toNat := by
  rw [beBytes_eq_field, BitVec.toNat_ofInt]
  rfl

theorem statisticsBytes_eq (t : Stats) (c : Credit) : statisticsBytes t c = statisticsLayout t c := by
  rw [statisticsBytes, beBytes_two_ofNat, beBytes_four_ofNat, beBytes_four_ofInt]
  simp only [statisticsLayout, finCode_eq, field_one_countByte, beBytes_eq_field]

/-- An address is sent in bytes, its beat number times eight (R162). -/
theorem addrBytes_eq (a : BeatAddr) : addrBytes a = field 5 (8 * a.toNat) := by
  rw [addrBytes, beBytes_eq_field, BeatAddr.byteAddr, BitVec.toNat_append]
  congr 1
  simp [Nat.shiftLeft_eq, Nat.mul_comm]

theorem flagsByte_eq : ∀ expired write inSlot : Bool, flagBit expired 0 ||| flagBit write 1 ||| flagBit inSlot 2 =
    countByte (expired.toNat + (if write then 2 else 0) + 4 * inSlot.toNat) := by decide

theorem transactionBytes_eq (i : OttIndex) (expired : Bool) (t : Transaction) (ticks : Nat) :
    transactionBytes i expired t ticks = entryLayout i expired t ticks := by
  rw [transactionBytes, beBytes_two_ofNat, addrBytes_eq, flagsByte_eq, partitionCode_eq]
  cases hk : t.kind <;> simp [entryLayout, hk, finCode_eq, field_one_countByte, Transaction.length]

theorem listedFrom_eq (s : State) (first : OttIndex) : listedFrom s first = (List.finRange 32).filterMap fun i =>
    if i < first then none else listEntry s i := by
  rw [listedFrom, List.filterMap_filter]
  congr 1
  funext i
  by_cases h : i < first
  · rw [if_pos h, if_neg (by simpa using h)]
  · rw [if_neg h, if_pos (by simpa using h)]

theorem listingBytes_eq (s : State) (first : OttIndex) : listingBytes s first = listingLayout s first := by
  have hlisted : listedFrom s first = (List.finRange 32).filterMap fun i =>
      if i < first then none else
        match s.ott[i] with
        | .free => none
        | .opened t n => some (entryLayout i false t n)
        | .expired t => some (entryLayout i true t 0) := by
    rw [listedFrom_eq]
    congr 1
    funext i
    cases hi : s.ott[i] <;> simp [listEntry, hi, transactionBytes_eq]
  rw [listingBytes, hlisted, listingLayout, field_one_countByte]
  rfl

theorem presenceByte_eq : ∀ frame partition requester tag addr : Bool,
    flagBit frame 0 ||| flagBit partition 1 ||| flagBit requester 2 ||| flagBit tag 3 ||| flagBit addr 4 =
      countByte (frame.toNat + 2 * partition.toNat + 4 * requester.toNat + 8 * tag.toNat + 16 * addr.toNat) := by
  decide

/-- A code that may be absent, sent as zeros then (R163). -/
theorem codeOrZero_eq {α : Type} {code : α → Byte} {number : α → Nat} (h : ∀ a, code a = countByte (number a))
    (o : Option α) : (o.map code).getD 0#8 = countByte ((o.map number).getD 0) := by
  cases o with
  | none => rfl
  | some a => exact h a

theorem getD_toNat {w : Nat} (o : Option (BitVec w)) : (o.getD 0#w).toNat = (o.map BitVec.toNat).getD 0 := by
  cases o <;> simp

/-- The incident record has the layout of 11.5. -/
theorem incidentBytes_eq (r : IncidentRecord) : incidentBytes r = incidentLayout r := by
  have htag : r.tag.getD 0#8 = countByte ((r.tag.map BitVec.toNat).getD 0) := by
    rw [← getD_toNat, countByte_toNat]
  rw [incidentLayout, ← getD_toNat r.frame, ← getD_toNat r.addr, incidentBytes, beBytes_two_ofNat, presenceByte,
    presenceByte_eq, htag]
  simp only [incidentCode_eq, codeOrZero_eq shownPhaseCode_eq, codeOrZero_eq finCode_eq, addrBytes_eq,
    field_one_countByte, beBytes_eq_field, List.append_assoc, List.cons_append, List.nil_append]
  rfl

/-! ## The commands that read (R30, R57, R135, R156 to R158) -/

/-- A command that reads replies OK with its data and does nothing else. -/
theorem perform_reads {c : LinkCommand} {s : State} {bytes : List Byte} (h : readReply c s = some bytes) :
    perform c s = (s, { status := .ok, bytes := bytes }) := by
  cases c with
  | nop =>
    cases h
    rfl
  | readStatus =>
    have hb : statusLayout s = bytes := Option.some.inj h
    rw [← hb, ← statusBytes_eq]
    rfl
  | readSettings =>
    have hb : settingsLayout s.settings = bytes := Option.some.inj h
    rw [← hb, ← settingsBytes_eq]
    rfl
  | readPhases b =>
    obtain ⟨i, hi, rfl⟩ := Option.map_eq_some_iff.mp h
    simp [perform, cmdReadPhases, hi, replyData, phasesBytes_eq]
  | readPartition b p =>
    obtain ⟨i, hi, rfl⟩ := Option.map_eq_some_iff.mp h
    simp [perform, cmdReadPartition, hi, replyData, recordBytes_eq]
  | readMap b f n =>
    obtain ⟨i, hi, rfl⟩ := Option.map_eq_some_iff.mp h
    rw [← mapBytes_eq]
    simp [perform, cmdReadMap, hi, replyData]
  | readStatistics p =>
    obtain ⟨i, hi, rfl⟩ := Option.map_eq_some_iff.mp h
    simp [perform, cmdReadStatistics, hi, replyData, statisticsBytes_eq]
  | readTransactions f =>
    obtain ⟨i, hi, rfl⟩ := Option.map_eq_some_iff.mp h
    simp [perform, cmdReadTransactions, hi, replyData, listingBytes_eq]
  | writeSettings | writePhases | writePartition | writeMap | copyBank | closeBank | requestSwitch | cancelSwitch
  | setMode | stopSchedule | takeIncident | clearStatistics | flushQuarantine | resetRegulator => cases h

/-- Settles O42: each reading command's reply is the layout of its data. -/
theorem readsReportAndChangeNothing : Obligations.ReadsReportAndChangeNothing :=
  fun _ _ _ hfree h => Banks.exec_row_of_perform hfree (perform_reads h)

/-! ## The figures of the status report (R157, R84) -/

/-- The report up to the queue lengths. -/
def statusHead (s : State) : List Byte :=
  [seqStateCode s.seq.state] ++ beBytes 4 s.seq.frame ++ [codeOr shownPhaseCode (shownPhase s)] ++
  beBytes 2 (BitVec.ofNat 16 (ticksFigure s)) ++ [codeOr causeCode s.seq.cause] ++
  [bankStateCode s.banks.bank0.state, bankStateCode s.banks.bank1.state, codeOr bankCode s.banks.active,
   codeOr bankCode s.banks.pendingSwitch] ++
  beBytes 2 (BitVec.ofNat 16 s.banks.framesInBank) ++
  [modeCode s.mode.inForce, codeOr modeCode s.mode.requested, codeOr modeCode s.mode.drainTarget]

/-- The queue lengths in the report. -/
def statusQueues (s : State) : List Byte := s.hold.toList.map fun q => countByte q.length

/-- The report after the queue lengths. -/
def statusTail (s : State) : List Byte :=
  [countByte (storeCount s), countByte (openCount s), countByte (expiredCount s), onOffCode s.offer.isSome,
   countByte s.returnQueue.length, countByte s.incidents.queue.length, countByte s.incidents.lost,
   onOffCode s.pins.drst]

theorem statusLayout_parts (s : State) : statusLayout s = statusHead s ++ statusQueues s ++ statusTail s :=
  (statusBytes_eq s).symm

theorem statusHead_length (s : State) : (statusHead s).length = 18 := by simp [statusHead]

theorem statusQueues_length (s : State) : (statusQueues s).length = 8 := by simp [statusQueues]

theorem statusLayout_tail (s : State) (k : Nat) : (statusLayout s)[26 + k]? = (statusTail s)[k]? := by
  have hlen : (statusHead s ++ statusQueues s).length = 26 := by
    rw [List.length_append, statusHead_length, statusQueues_length]
  rw [statusLayout_parts, List.getElem?_append_right (by omega), hlen, Nat.add_sub_cancel_left]

theorem statusLayout_queues (s : State) : ((statusLayout s).drop 18).take 8 = statusQueues s := by
  rw [statusLayout_parts, List.append_assoc, List.drop_left' (statusHead_length s),
    List.take_left' (statusQueues_length s)]

/-- A count below 256 stands in its byte. -/
theorem countByte_small {n : Nat} (h : n < 256) : (countByte n).toNat = n := by
  rw [countByte, BitVec.toNat_ofNat]
  omega

/-- No bank is ACTIVE exactly while the sequencer is STOPPED (R25, 2.2). -/
theorem active_absent_iff {s : State} (h : BankLaw s) :
    codeOr bankCode s.banks.active = 0xFF#8 ↔ seqStateCode s.seq.state = 0x00#8 := by
  obtain ⟨hactive, -⟩ := h
  have hcode : codeOr bankCode s.banks.active = 0xFF#8 ↔
      ¬ (s.banks.bank0.state = .active ∨ s.banks.bank1.state = .active) := by
    by_cases h0 : s.banks.bank0.state = .active
    · simp [BankControl.active, h0, codeOr, bankCode]
    · by_cases h1 : s.banks.bank1.state = .active <;> simp [BankControl.active, h0, h1, codeOr, bankCode, absentCode]
  rw [hcode, hactive, ne_eq, Decidable.not_not]
  cases s.seq.state <;> simp [seqStateCode]

theorem openCount_add_expiredCount (s : State) : openCount s + expiredCount s ≤ 32 := by
  have hexcl : ∀ l : List OttEntry, l.countP OttEntry.isOpen + l.countP OttEntry.isExpired ≤ l.length := by
    intro l
    induction l with
    | nil => exact Nat.le_refl 0
    | cons x l ih =>
      simp only [List.countP_cons, List.length_cons]
      cases x <;> simp [OttEntry.isOpen, OttEntry.isExpired] <;> omega
  have hlen : s.ott.toList.length = 32 := by simp
  exact Nat.le_trans (hexcl s.ott.toList) (Nat.le_of_eq hlen)

/-- Settles O43: the figures fit their bytes under the laws, and the laws relate them. -/
theorem statusReportAgrees : Obligations.StatusReportAgrees := by
  intro s h _
  obtain ⟨hstore, hqueues⟩ := h.hold
  have hreturn : s.returnQueue.length + (storeCount s + openCount s) ≤ 96 := h.returns
  have hott := openCount_add_expiredCount s
  have hstore : storeCount s ≤ 48 := hstore
  have hlengths : ((statusQueues s).map BitVec.toNat).sum = storeCount s := by
    rw [statusQueues, List.map_map, storeCount]
    congr 1
    refine List.map_congr_left fun q hq => countByte_small ?_
    obtain ⟨i, hi, rfl⟩ := List.getElem_of_mem hq
    have hlen := (hqueues ⟨i, by simpa using hi⟩).1
    simp only [Vector.getElem_toList, Fin.getElem_fin] at hlen ⊢
    omega
  refine ⟨statusBytes_eq s, by rw [← statusBytes_eq, statusBytes_length], ?_, by rw [statusLayout_queues, hlengths],
    countByte (storeCount s), countByte (openCount s), countByte (expiredCount s), countByte s.returnQueue.length,
    statusLayout_tail s 0, statusLayout_tail s 1, statusLayout_tail s 2, statusLayout_tail s 4, ?_⟩
  · rw [← statusBytes_eq]
    change some (codeOr bankCode s.banks.active) = _ ↔ some (seqStateCode s.seq.state) = _
    rw [Option.some_inj, Option.some_inj]
    exact active_absent_iff h.bank
  · rw [countByte_small (by omega), countByte_small (by omega), countByte_small (by omega), countByte_small (by omega)]
    exact ⟨rfl, rfl, rfl, rfl, hott, by omega⟩

end Sys2Proof.Layouts
end

section
/-! PROOFS. The commands on settings, banks, schedule, incidents and counters, and the regulator reset. -/

namespace Sys2Proof.Control

open Sys2Proof.Machine Sys2Proof.Safety Sys2Proof.Claims Sys2Proof.Invariant Sys2Proof.Ticks
open Sys2Proof.Banks (exec_row_of_perform)

/-! ## The alert line (R146) -/

theorem alertAsserted_iff (s : State) : alertAsserted s = true ↔ AlertHolds s.settings s.incidents := by
  simp [alertAsserted]

/-! ## WRITE_SETTINGS (R20, R39, R158, R159) -/

theorem settingsRefused_iff (t : Settings) (s : State) : settingsRefused t s = true ↔
    ((s.seq.state ≠ .stopped ∧ (t.prescale ≠ s.settings.prescale ∨ t.syncMode ≠ s.settings.syncMode)) ∨
      (s.settings.alternation = false ∧ t.alternation = true ∧ s.banks.pendingSwitch ≠ none)) := by
  simp [settingsRefused, Option.isSome_iff_ne_none, and_assoc]

theorem alternationRestarts_iff (t : Settings) (s : State) : alternationRestarts t s = true ↔
    t.alternation = true ∧ (s.settings.alternation = false ∨ t.exponent ≠ s.settings.exponent) := by
  simp [alternationRestarts]

theorem storeSettings_eq (t : Settings) (s : State) : storeSettings t s = { s with
    settings := t
    divider := if t.prescale = s.settings.prescale then s.divider else 0
    banks := { s.banks with framesInBank :=
      if t.alternation = true ∧ (s.settings.alternation = false ∨ t.exponent ≠ s.settings.exponent) then 0
      else s.banks.framesInBank } } := by
  simp only [storeSettings, alternationRestarts_iff]

theorem cmdWriteSettings_refused {p m : Byte} {g : Half} {d a k th e : Byte} {n : Settings} {s : State}
    (hn : settings? p m g d a k th e = some n) (h : settingsRefused n s = true) :
    cmdWriteSettings p m g d a k th e s = (s, replyOf .badState) := by
  simp [cmdWriteSettings, hn, h, refuse]

theorem cmdWriteSettings_stored {p m : Byte} {g : Half} {d a k th e : Byte} {n : Settings} {s : State}
    (hn : settings? p m g d a k th e = some n) (h : settingsRefused n s = false) :
    cmdWriteSettings p m g d a k th e s = (storeSettings n s, Reply.done) := by
  simp [cmdWriteSettings, hn, h]

/-- Settles O44: the two conditions of R158 decide. -/
theorem settingsWritten : Obligations.SettingsWritten := by
  intro s p m g d a k th e n hn hfree
  refine ⟨fun hbad => ?_, fun hgood => ?_⟩
  · exact exec_row_of_perform hfree (cmdWriteSettings_refused hn ((settingsRefused_iff n s).mpr hbad))
  · have hok : settingsRefused n s = false := Bool.eq_false_iff.mpr (mt (settingsRefused_iff n s).mp hgood)
    refine ⟨_, exec_row_of_perform hfree (cmdWriteSettings_stored hn hok), ?_, ?_⟩
    · rw [storeSettings_eq]
    · exact alertAsserted_iff _

/-! ## The commands that write a bank (R26 to R29, R31) -/

theorem writeBank_active {b : BankId} {s : State} (f : Schedule → Schedule) (h : (s.banks.get b).state = .active) :
    writeBank b f s = (s, replyOf .bankActive) := by
  rw [writeBank, if_pos h]
  rfl

theorem writeBank_open {b : BankId} {s : State} (f : Schedule → Schedule) (h : (s.banks.get b).state ≠ .active) :
    writeBank b f s =
      ({ s with banks := s.banks.set b { contents := f (s.banks.get b).contents, state := .editing } },
        Reply.done) := by
  rw [writeBank, if_neg h]

/-- The run of a WRITE_MAP replaces the entries of its own requesters (R29). -/
theorem replaceRun_eq (first : Nat) (entries : List (Option Partition)) (m : Vector (Option Partition) 64) :
    replaceRun first entries m = Vector.ofFn fun r =>
      if first ≤ r.val ∧ r.val < first + entries.length then (entries[r.val - first]?).getD none else m[r] := by
  unfold replaceRun
  congr 1
  funext r
  by_cases hfirst : first ≤ r.val
  · by_cases hlast : r.val < first + entries.length
    · have hin : r.val - first < entries.length := by omega
      simp [hfirst, hlast, List.getElem?_eq_getElem hin]
    · have hout : entries.length ≤ r.val - first := by omega
      simp [hfirst, hlast, List.getElem?_eq_none hout]
  · simp [hfirst]

/-- Settles O45: each of the four commands is one write of its bank. -/
theorem bankWritten : Obligations.BankWritten := by
  intro s c b f hfree hcmd
  have hwrite : perform c s = writeBank b f s := by
    obtain ⟨bb, nb, ls, n, rfl, hargs, rfl⟩ | ⟨bb, pb, e, w, base, fr, ql, hl, p, r, rfl, hargs, hrec, rfl⟩ |
      ⟨bb, fb, nb, es, first, entries, rfl, hargs, rfl⟩ | ⟨sb, db, src, rfl, hargs, rfl⟩ := hcmd
    · simp only [perform, cmdWritePhases, hargs]
    · simp only [perform, cmdWritePartition, hargs, hrec]
      rfl
    · simp only [perform, cmdWriteMap, hargs, replaceRun_eq]
    · simp only [perform, cmdCopyBank, hargs]
  refine ⟨fun h => exec_row_of_perform hfree (hwrite.trans (writeBank_active f h)), fun h => ?_⟩
  refine ⟨_, exec_row_of_perform hfree (hwrite.trans (writeBank_open f h)), rfl, ?_⟩
  cases b <;> exact ⟨rfl, rfl, rfl, rfl⟩

/-! ## STOP_SCHEDULE (R21, R40, R58) -/

theorem standDown_eq (b : Bank) : b.standDown = { b with state := if b.state = .active then .ready else b.state } := by
  unfold Bank.standDown
  cases h : b.state <;> simp

theorem stop_get (c : BankControl) (b : BankId) : c.stop.get b = { c.get b with
    state := if (c.get b).state = .active then .ready else (c.get b).state } := by
  cases b <;> exact standDown_eq _

theorem cmdStopSchedule_refused {s : State} (h : s.mode.inForce ≠ .straight ∨ s.mode.requested ≠ none) :
    cmdStopSchedule s = (s, replyOf .badState) := by
  rw [cmdStopSchedule, if_neg fun hboth => h.elim (absurd hboth.1) (absurd hboth.2)]
  rfl

theorem cmdStopSchedule_stopped {s : State} (hm : s.mode.inForce = .straight) (hr : s.mode.requested = none)
    (h : s.seq.state = .stopped) : cmdStopSchedule s = (s, Reply.done) := by
  rw [cmdStopSchedule, if_pos ⟨hm, hr⟩, h]

theorem cmdStopSchedule_running {s : State} (hm : s.mode.inForce = .straight) (hr : s.mode.requested = none)
    (h : s.seq.state ≠ .stopped) : cmdStopSchedule s = (stopSchedule s, Reply.done) := by
  rw [cmdStopSchedule, if_pos ⟨hm, hr⟩]
  cases hs : s.seq.state with
  | stopped => exact absurd hs h
  | running | gap => rfl

/-- Settles O50: the mode, then the sequencer's state decide. -/
theorem scheduleStopped : Obligations.ScheduleStopped := by
  intro s hfree
  refine ⟨fun h => exec_row_of_perform hfree (cmdStopSchedule_refused h), fun hm hr => ⟨fun h => ?_, fun h => ?_⟩⟩
  · exact exec_row_of_perform hfree (cmdStopSchedule_stopped hm hr h)
  · exact ⟨_, exec_row_of_perform hfree (cmdStopSchedule_running hm hr h), rfl, rfl, rfl, rfl,
      stop_get s.banks, fun p => getElem_mapAll ..⟩

/-! ## TAKE_INCIDENT (R144, R146) -/

theorem incidentLayout_length (r : IncidentRecord) : (incidentLayout r).length = 19 := by
  rw [← Layouts.incidentBytes_eq, incidentBytes_length]

/-- With no incident lost ALERT_N is a matter of the threshold (R146). -/
theorem alertAsserted_of_lost_zero {s : State} (h : s.incidents.lost = 0) : alertAsserted s = true ↔
    s.settings.alertEnable = true ∧ s.settings.alertThreshold.val ≤ s.incidents.queue.length := by
  rw [alertAsserted_iff, AlertHolds, h]
  simp

/-- Settles O51: the Incident Queue is empty or has an oldest record. -/
theorem incidentTaken : Obligations.IncidentTaken := by
  intro s hfree
  have hlost : ∀ v, [countByte v] = field 1 v := fun v => (Layouts.field_one v).symm
  cases hq : s.incidents.queue with
  | nil =>
    have hp : cmdTakeIncident s = ({ s with incidents := { s.incidents with lost := 0 } },
        { status := .queueEmpty, bytes := field 1 s.incidents.lost }) := by
      rw [cmdTakeIncident, hq, ← hlost]
    refine ⟨_, exec_row_of_perform hfree hp, fun _ => rfl, nofun, ?_⟩
    rw [alertAsserted_of_lost_zero (s := withReply _ _ _) rfl]
    simp [withReply, hq]
  | cons r rest =>
    have hp : cmdTakeIncident s = ({ s with incidents := { s.incidents with queue := rest, lost := 0 } },
        { status := .ok, bytes := incidentLayout r ++ field 1 s.incidents.lost }) := by
      rw [cmdTakeIncident, hq, ← hlost, ← Layouts.incidentBytes_eq]
      rfl
    refine ⟨_, exec_row_of_perform hfree hp, nofun, fun r' rest' h => ?_, ?_⟩
    · cases h
      exact ⟨incidentLayout_length r, rfl⟩
    · rw [alertAsserted_of_lost_zero (s := withReply _ _ _) rfl]
      rfl

/-! ## CLEAR_STATISTICS and FLUSH_QUARANTINE (R57, R131) -/

/-- Settles O52: the two commands do what they do from every state. -/
theorem countersClearedAndQuarantineFlushed : Obligations.CountersClearedAndQuarantineFlushed :=
  fun _ => ⟨fun hfree => exec_row_of_perform hfree rfl, fun hfree => exec_row_of_perform hfree rfl⟩

/-! ## RESET_REGULATOR (R105, R160, R164) -/

theorem heldAborts_eq (s : State) : heldAborts s = (List.finRange 8).flatMap fun p => s.hold[p].map fun e =>
    { requester := e.request.requester, tag := e.request.tag, status := .aborted, data := [] } := by
  rw [heldAborts, Path.toList_eq_map_finRange, ← List.flatMap_def, List.map_flatMap]
  rfl

/-- A stopped sequencer and the same OTT: no expiry waits. -/
theorem quiet_of_stopped {s t : State} (h : quiet s = true) (hseq : t.seq.state = .stopped) (hott : t.ott = s.ott) :
    quiet t = true := by
  obtain ⟨-, -, hd⟩ := quiet_iff.mp h
  refine quiet_iff.mpr ⟨?_, ?_, (deadlineDue_congr hott).trans hd⟩
  · simp [phaseDue, hseq]
  · simp [guardDue, hseq]

/-- The reply OK with length 0 as it is shifted out (R164). -/
theorem replyStream_done : replyStream Reply.done = [0x00#8, 0x00#8, 0xD7#8] := by decide +kernel

/-- Settles O53: the table of R160, and then the end of the execution and the next transaction. -/
theorem regulatorReset : Obligations.RegulatorReset := by
  intro s hfree
  obtain ⟨⟨hquiet, hr⟩, hc, -⟩ := id hfree
  have hexec : exec .resetRegulator s = .next (withReply .ok [] (Machine.regulatorReset s)) :=
    exec_row_of_perform hfree rfl
  have hq1 : quiet (withReply .ok [] (Machine.regulatorReset s)) = true := quiet_of_stopped hquiet rfl rfl
  refine ⟨_, _, hexec, rfl, rfl, rfl, rfl, stop_get s.banks, fun p => ⟨?_, ?_, ?_⟩, rfl, ?_, rfl, fun hth => ?_,
    event_of_quiet _ hq1, rfl, ?_⟩
  · exact Vector.getElem_replicate ..
  · exact Vector.getElem_replicate ..
  · exact Vector.getElem_replicate ..
  · exact congrArg (s.returnQueue ++ ·) (heldAborts_eq s)
  · rw [Bool.eq_false_iff, ne_eq, alertAsserted_of_lost_zero (s := withReply _ _ _) rfl]
    rintro ⟨-, hle⟩
    exact absurd (Nat.le_trans hth hle) (Nat.not_succ_le_zero 0)
  · have hq2 : quiet (finishExecution (withReply .ok [] (Machine.regulatorReset s))) = true :=
      quiet_of_stopped hquiet rfl rfl
    refine ⟨_, (event_of_quiet csAssert hq2).trans (congrArg _ (Wire.csAssert_idle ?_ ?_ rfl)), ?_⟩
    · exact hc
    · exact hr
    · exact fun k => congrArg (fun l : List Byte => some (l.getD k 0xFF#8)) replyStream_done

end Sys2Proof.Control
end

section
/-! PROOFS. Pin reset and its end, and the recording of incidents (R4, R141 to R146, R165). -/

namespace Sys2Proof.Resets

open Sys2Proof.Machine Sys2Proof.Safety Sys2Proof.Claims Sys2Proof.Invariant Sys2Proof.Ticks

/-! ## PIN_RESET and RST_N_DEASSERTION (R4, R165) -/

/-- The initial values of a bank (R24). -/
theorem pinReset_bank (s : State) (b : BankId) :
    ((pinReset s).banks.get b).state = .editing ∧ ((pinReset s).banks.get b).contents.phaseCount = 0 ∧
    (∀ p : Phase, ((pinReset s).banks.get b).contents.lengths[p] = 0) ∧
    (∀ p : Partition, ((pinReset s).banks.get b).contents.parts[p] =
      { enabled := false, window := 0, budgetBase := 0, budgetFraction := 0, queueLimit := 0, holdLimit := 0 }) ∧
    (∀ r : Requester, ((pinReset s).banks.get b).contents.map[r] = none) := by
  have hbank : (pinReset s).banks.get b = { contents := Schedule.zero, state := .editing } := by cases b <;> rfl
  rw [hbank]
  exact ⟨rfl, rfl, fun _ => Vector.getElem_replicate .., fun _ => Vector.getElem_replicate ..,
    fun _ => Vector.getElem_replicate ..⟩

/-- The release from pin reset brings no expiry to be handled. -/
theorem released_quiet {s : State} (h : quiet s = true) : quiet (released s) = true := h

theorem endPinReset_released {s : State} (h : s.pins.rst = false) : endPinReset s = s := by
  rw [endPinReset, if_neg (by simp [h])]

/-- Settles O54: pin reset writes the initial values, and its end takes a response still presented. -/
theorem pinResetAndItsEnd : Obligations.PinResetAndItsEnd := by
  refine ⟨fun s => ⟨pinReset s, rfl, rfl, rfl, rfl, rfl, rfl, pinReset_bank s, rfl, rfl,
    fun p => ⟨Vector.getElem_replicate .., Vector.getElem_replicate .., Vector.getElem_replicate ..⟩, rfl, rfl, rfl,
    rfl, rfl, fun i => Vector.getElem_replicate .., rfl, rfl, rfl, rfl, rfl⟩, fun s hquiet => ?_⟩
  have hexec : exec .rstNDeassertion s = .next (endPinReset s) := event_of_quiet _ hquiet
  rw [hexec]
  refine ⟨fun hr => by rw [endPinReset_released hr], fun hr hm => by rw [endPinReset_none hr hm, released, ← hm],
    fun r hr hm => ?_⟩
  have harrival : exec (.responseArrival r) (released s) = .next (takeResponse r (released s)) :=
    (event_of_quiet _ (released_quiet hquiet)).trans (congrArg _ (Memory.arriveResponse_taken r rfl))
  rw [endPinReset_some hr hm]
  exact harrival.symm

/-! ## Incidents (R141 to R143, R146) -/

/-- Where the incident does not coalesce it is added or lost (R142, R143). -/
theorem take_not_coalesced {u : IncidentUnit} {i : Incident} {frame : Option Word32} (h : ¬ Coalesces u i frame)
    (phase : Option ShownPhase) : u.take i frame phase = u.addOrLose i frame phase := by
  refine take_other phase fun n hn => ?_
  obtain ⟨old, hq⟩ := List.getLast?_eq_some_iff.mp hn
  rw [Bool.eq_false_iff, ne_eq, matchesNewest_iff]
  exact fun hm => h ⟨old, n, hq, hm⟩

/-- The three things a recording does to the queue and the lost count. -/
theorem take_counts (u : IncidentUnit) (i : Incident) (frame : Option Word32) (phase : Option ShownPhase) :
    (Coalesces u i frame → (u.take i frame phase).queue.length = u.queue.length ∧
      (u.take i frame phase).lost = u.lost) ∧
    (¬ Coalesces u i frame →
      (u.queue.length < 16 → (u.take i frame phase).queue.length = u.queue.length + 1 ∧
        (u.take i frame phase).lost = u.lost) ∧
      (16 ≤ u.queue.length → 0 < (u.take i frame phase).lost)) := by
  refine ⟨fun ⟨old, n, hq, hm⟩ => ?_, fun h => ?_⟩
  · rw [take_matching phase hq ((matchesNewest_iff u n i frame).mpr hm), hq]
    simp
  · rw [take_not_coalesced h, IncidentUnit.addOrLose, Config.incidentCapacity]
    refine ⟨fun hlt => ?_, fun hge => ?_⟩
    · simp [hlt]
    · rw [if_neg (Nat.not_lt.mpr hge)]
      exact Nat.lt_min.mpr ⟨Nat.succ_pos _, by decide⟩

/-- Settles O55: the newest record matches, or there is room, or there is none; and the line follows the counts. -/
theorem incidentCoalescedAddedOrLost : Obligations.IncidentCoalescedAddedOrLost := by
  refine ⟨fun u i frame phase => ⟨fun old n hq hk hp hr hf => ?_, fun h => ⟨fun hlt => ?_, fun hge => ?_⟩⟩,
    fun s i => ⟨Control.alertAsserted_iff s, fun h => ?_, fun h => ⟨fun hlt => ?_, fun hge => ?_⟩⟩⟩
  · exact take_matching phase hq ((matchesNewest_iff u n i frame).mpr ⟨hk, hp, hr, hf⟩)
  · rw [take_not_coalesced h, IncidentUnit.addOrLose]
    exact if_pos hlt
  · rw [take_not_coalesced h, IncidentUnit.addOrLose]
    exact if_neg (Nat.not_lt.mpr hge)
  · obtain ⟨hlen, hlost⟩ := (take_counts s.incidents i (incidentFrame s) (shownPhase s)).1 h
    rw [alertAsserted, alertAsserted, recorded, hlen, hlost]
  · obtain ⟨hadded, -⟩ := (take_counts s.incidents i (incidentFrame s) (shownPhase s)).2 h
    obtain ⟨hlen, hlost⟩ := hadded hlt
    rw [Control.alertAsserted_iff, AlertHolds, recorded, hlen, hlost]
  · obtain ⟨-, hlosing⟩ := (take_counts s.incidents i (incidentFrame s) (shownPhase s)).2 h
    rw [Control.alertAsserted_iff]
    exact .inr (hlosing hge)

end Sys2Proof.Resets
end
